-- ==== Sys2Proof/Word.lean ====
section
/-! DEFINITION. The word types of the 7210: 16-bit words of every frame (chapter 11), command tags (R1) and
sweep numbers (R18). -/

namespace Sys2Proof

/-- One 16-bit word of a frame (chapter 11: "a sequence of 16-bit words"). -/
abbrev Word := BitVec 16

/-- A command tag, 0..255 (R1). -/
abbrev Tag := BitVec 8

/-- A sweep number: "an unsigned 32-bit count that wraps" (R18). -/
abbrev SweepNo := BitVec 32

end Sys2Proof
end

