-- ==== Sys2Proof/Syntax.lean ====
section
/-! DEFINITION. The commands of the block: one constructor of `Instr` for each row of spec/opcode_table.json.
Operands are the words, pins and frames that the row's event brings from outside. -/

namespace Sys2Proof

/-- A forward frame with a good check, by the kind its header names (R1, layout of section 11.2). The lane bits,
the spare bits and the sequence of a frame that is not DRIVE are ignored (R1, R180), so they are not carried. -/
inductive ForwardFrame where
  /-- Kind DRIVE. `low` is header bits 9..0 as received, which the layout does not assign and the 7210 ignores (R180). -/
  | drive (lane : BitVec 3) (hold : Bool) (low : BitVec 10) (sequence : Word) (samples : List Word)
  /-- Kind COMMAND, with its tag and its 64 payload words. -/
  | command (hold : Bool) (tag : Tag) (payload : List Word)
  /-- Kind FILLER, or the kind code 3 that is taken as FILLER. -/
  | filler (hold : Bool)
  deriving DecidableEq, Repr

/-- The places inside an evaluation at which another block may take an event (R27, R69, R82, R133, R175; log entry 16).
Each names the stage, the step, or the item of a step that has just ended, so that a place stands between any two notices
of an evaluation. -/
inductive EvalPoint where
  /-- The evaluation has begun, and its first stage has not. -/
  | begun
  /-- The failure count, SENSE_BLIND and BLIND_MUTE are settled. -/
  | failureCount
  /-- The stale count and HEAD_LOST of position `k` are settled. -/
  | headStale (k : Nat)
  /-- Sense classification has ended. -/
  | classification
  /-- The release notice that an application owes row `r` is queued, when it owes one. -/
  | releasedRow (r : Nat)
  /-- The second stage has ended. -/
  | activation
  /-- The point update has ended. -/
  | pointUpdate
  /-- Row `r`'s notice of row advance is queued, when it has one. -/
  | advancedRow (r : Nat)
  /-- Row advance has ended. -/
  | rowAdvance
  /-- Zone `z`'s blanking is counted down. -/
  | countedZone (z : Nat)
  /-- Step 1 of the zone stage has ended. -/
  | blankingEnds
  /-- Zone `z`'s arc is judged and its notice queued. -/
  | judgedZone (z : Nat)
  /-- Row `r` is returned to IDLE by zone `z`'s entry into BLANK, when it is one of the zone's ARC rows. -/
  | returnedRow (z r : Nat)
  /-- Step 3 of the zone stage has ended. -/
  | arcsJudged
  /-- A resolution has sampled ARC_N. -/
  | arcSampled
  /-- The zone stage has ended. -/
  | zoneStage
  /-- Lane `l` is settled. -/
  | settledLane (l : Nat)
  /-- Step 2 of lane handling has ended. -/
  | settling
  /-- Lane `l` is completed. -/
  | completedLane (l : Nat)
  /-- The snapshot count is settled, the last of the seven stages. -/
  | snapshotCount
  deriving DecidableEq, Repr

/-- An event that a block takes while an evaluation is in progress (R27: "taken by the block that owns it as at any
other time"). -/
inductive MidEvent where
  | openingMark
  | goodFrame (frame : ForwardFrame)
  | badFrame
  | missingMark
  | lanePortBoundary
  | returnBoundary
  | inhibitFall
  | inhibitRise
  | arcFall
  | arcRise
  | loopReturn (words : List Word)
  deriving DecidableEq, Repr

/-- What comes about while an evaluation runs, in order; each item stands at the place it names. -/
abbrev During := List (EvalPoint × MidEvent)

/-- The commands of the 7210: one constructor per row of spec/opcode_table.json, in the table's order.
The management rows carry the command's tag and the argument words of its payload (section 11.3). -/
inductive Instr where
  | openingMarkFound
  | goodFrameAligned (frame : ForwardFrame)
  | badCheckFrame
  | missingOpeningMark
  | driveFrame (lane : BitVec 3) (hold : Bool) (low : BitVec 10) (sequence : Word) (samples : List Word)
  | commandFrame (hold : Bool) (tag : Tag) (payload : List Word)
  | fillerFrame (hold : Bool)
  | lanePortFrameBoundary
  | returnFrameBoundary
  | inhibitNAssert
  | inhibitNDeassert
  | arcNFall
  | arcNRise
  | resetNAssert
  | resetNRelease (probePolHigh : Bool)
  | sweepTick (during : During)
  | sweepReturn (words : List Word) (during : During)
  | activationAbandon
  | blankingEnd (zone : BitVec 3)
  | probeJudgement (lane : BitVec 3)
  | snapshotBuild
  | evaluationComplete
  | loadPoint (tag : Tag) (index definedWord : Word) (fields : List Word)
  | loadHead (tag : Tag) (index definedWord : Word) (fields : List Word)
  | loadCurve (tag : Tag) (index definedWord : Word) (fields : List Word)
  | loadCondition (tag : Tag) (index definedWord : Word) (fields : List Word)
  | loadZonePlan (tag : Tag) (index definedWord : Word) (fields : List Word)
  | loadLanePlan (tag : Tag) (index definedWord : Word) (fields : List Word)
  | loadParameters (tag : Tag) (index definedWord : Word) (fields : List Word)
  | discard (tag : Tag)
  | activate (tag : Tag)
  | site (tag : Tag) (lanes zones heads period failLimit ratioFloor maxHigh maxLow : Word)
  | laneOn (tag : Tag) (lane : Word)
  | laneOff (tag : Tag) (lane : Word)
  | laneMode (tag : Tag) (lane mode : Word)
  | laneSetpoint (tag : Tag) (lane setpoint : Word)
  | clear (tag : Tag) (seenOption rows0 rows1 rows2 rows3 lanes zones : Word)
  | readLane (tag : Tag) (index : Word)
  | readZone (tag : Tag) (index : Word)
  | readRow (tag : Tag) (index : Word)
  | readPoint (tag : Tag) (index : Word)
  | readCurve (tag : Tag) (index : Word)
  | readHead (tag : Tag) (index : Word)
  | readSiteRecord (tag : Tag)
  | readParameters (tag : Tag)
  | readPendingEntry (tag : Tag) (index part : Word)
  | readLinkStatistics (tag : Tag)
  | readSweepStatistics (tag : Tag)
  | readAlertSet (tag : Tag)
  | restart (tag : Tag)
  | unknown (tag : Tag) (kind : Word) (arguments : List Word)
  deriving DecidableEq, Repr

end Sys2Proof
end

