-- ==== Sys2Proof/Decode.lean ====
section
/-! DEFINITION. The command that a table word spells. spec/opcode_table.json gives no row any bits (every row's "fields"
list is empty and none has "fixed"), so no word spells a command. The frames the block itself decodes are in
Machine/Layout.lean and Machine/Operands.lean. -/

namespace Sys2Proof

/-- The command spelled by the low `nbits` bits of a table word: none, as the table gives no row any bits. -/
def decodeTableWord (_nbits _w : Nat) : Option Instr := none

end Sys2Proof
end

