-- ==== Sys2Proof/Machine/Tables.lean ====
section
/-! DEFINITION. The table set and the site record: the entry types of the seven parts (R151) and their default values. -/

namespace Sys2Proof.Machine

/-! ### Scopes and enumerations, each in its chapter's order (chapter 11 codes a value by its position) -/

/-- The part of the site a point or row concerns (R38, R53). -/
inductive Scope where
  | lane (l : Nat)
  | zone (z : Nat)
  | site
  deriving DecidableEq, Repr

/-- Point kinds (R38). -/
inductive PointKind where
  | fwd | ref | ratio | temp | flow | level
  deriving DecidableEq, Repr

/-- How four QUAD samples become one reading (R41). -/
inductive Fold where
  | peak | trough | mean | last
  deriving DecidableEq, Repr

/-- A head's two modes (section 2.2). -/
inductive HeadMode where
  | spread | quad
  deriving DecidableEq, Repr

/-- Whether a row guards against high or low values (R53). -/
inductive Sense where
  | above | below
  deriving DecidableEq, Repr

/-- What a row does while effective (R53). -/
inductive Action where
  | note | ceiling | mute | arc
  deriving DecidableEq, Repr

/-- Whether a row's effect outlasts its release (R53). -/
inductive Latch where
  | self | latch
  deriving DecidableEq, Repr

/-- Whether a row sends notices and enters the alert set (R53). -/
inductive Report where
  | alert | quiet
  deriving DecidableEq, Repr

/-- The ceiling a CEILING row carries: fixed permille, or a curve (R53). -/
inductive CeilingForm where
  | fixed (permille : Nat)
  | curve (index : Nat)
  deriving DecidableEq, Repr

/-- Budget class (R95). -/
inductive BudgetClass where
  | strict (rank : Nat)
  | weighted (weight : Nat)
  deriving DecidableEq, Repr

/-- Probe policy (R95, R102). -/
inductive ProbePolicy where
  | followStrap | always | afterFault
  deriving DecidableEq, Repr

/-- The zones a head's arc flag reaches (R122, R153). -/
inductive ArcScope where
  | none
  | zone (z : Nat)
  | site
  deriving DecidableEq, Repr

/-! ### Table entries -/

/-- The source of a point: one input of one head, or two other points for a RATIO point (R38). -/
inductive PointSource where
  | head (position input : Nat) (fold : Fold) (gain : Nat) (offset : Int)
  | ratio (forward reflected : Nat)
  deriving DecidableEq, Repr

/-- A defined Point Table entry (R38). -/
structure PointEntry where
  kind : PointKind
  scope : Scope
  source : PointSource
  deriving DecidableEq, Repr

/-- A defined Head Table entry (R153); `expectedId` is none for ANY. -/
structure HeadEntry where
  expectedId : Option Nat
  mode : HeadMode
  quadInput : Nat
  arcScope : ArcScope
  deriving DecidableEq, Repr

/-- One breakpoint of a curve (R78). -/
structure Breakpoint where
  x : Nat
  y : Nat
  deriving DecidableEq, Repr

/-- A defined curve: its breakpoints from breakpoint 0 (R78). -/
abbrev Curve := List Breakpoint

/-- A defined Condition Table entry (R53). -/
structure RowEntry where
  source : Nat
  sense : Sense
  threshold : Nat
  release : Nat
  qualifyCount : Nat
  releaseCount : Nat
  action : Action
  ceiling : Option CeilingForm
  scope : Scope
  latch : Latch
  report : Report
  gated : Bool
  scaled : Bool
  deriving DecidableEq, Repr

/-- A defined zone plan entry: the zone, and the mark that it came from the default (R120). -/
structure ZoneEntry where
  zone : Nat
  fromDefault : Bool
  deriving DecidableEq, Repr

/-- A defined lane plan entry (R95). -/
structure LanePlan where
  ratedWatts : Nat
  pcal : Nat
  ratioPoint : Option Nat
  budgetClass : BudgetClass
  reducedLevel : Nat
  rampRate : Nat
  probePolicy : ProbePolicy
  deriving DecidableEq, Repr

/-- The Protection Parameters (R153). -/
structure Parameters where
  blindCeiling : Nat
  blindMuteCount : Nat
  headLossLimit : Nat
  budgetPoint : Option Nat
  budgetCurve : Nat
  arcWindow : Nat
  arcLimit : Nat
  blankingCount : Nat
  restrikeLevel : Nat
  probeLevel : Nat
  probeLength : Nat
  probeRatioLimit : Nat
  probeRetries : Nat
  snapshotInterval : Nat
  deriving DecidableEq, Repr

/-- A table set: the seven parts of R151. An entry that is none is undefined. -/
structure TableSet where
  points : List (Option PointEntry)
  heads : List (Option HeadEntry)
  curves : List (Option Curve)
  rows : List (Option RowEntry)
  zonePlan : List (Option ZoneEntry)
  lanePlan : List (Option LanePlan)
  parameters : Parameters
  deriving DecidableEq, Repr

/-- The site record (R161). -/
structure SiteRecord where
  lanes : Nat
  zones : Nat
  heads : Nat
  sweepPeriod : Nat
  failLimit : Nat
  ratioFloor : Nat
  siteMaximum : Nat
  deriving DecidableEq, Repr

/-! ### Sizes and defaults -/

/-- Entries of the Point Table (R38). -/
def pointCount : Nat := 64
/-- Entries of the Head Table (R151). -/
def headCount : Nat := 16
/-- Entries of the Curve Table (R78). -/
def curveCount : Nat := 4
/-- Entries of the Condition Table (R53). -/
def rowCount : Nat := 48
/-- Lanes of the part, and entries of the zone plan and the lane plan (R95, R120). -/
def laneCount : Nat := 8
/-- Zone records of the part (R121). -/
def zoneCount : Nat := 8

/-- The default of every protection parameter (R153). -/
def Parameters.default : Parameters where
  blindCeiling := 500
  blindMuteCount := 20
  headLossLimit := 5
  budgetPoint := none
  budgetCurve := 0
  arcWindow := 10000
  arcLimit := 4
  blankingCount := 20
  restrikeLevel := 300
  probeLevel := 50
  probeLength := 10
  probeRatioLimit := 1000
  probeRetries := 1
  snapshotInterval := 0

/-- The empty table set: every entry undefined, parameters at their defaults (R164). -/
def TableSet.empty : TableSet where
  points := List.replicate pointCount none
  heads := List.replicate headCount none
  curves := List.replicate curveCount none
  rows := List.replicate rowCount none
  zonePlan := List.replicate laneCount none
  lanePlan := List.replicate laneCount none
  parameters := Parameters.default

/-- The site record's defaults (R161). -/
def SiteRecord.default : SiteRecord where
  lanes := 1
  zones := 1
  heads := 1
  sweepPeriod := 10
  failLimit := 3
  ratioFloor := 50
  siteMaximum := 1000000

/-! ### Reading an entry: none for an undefined entry and for an index the table does not have -/

/-- Entry `i` of the Point Table. -/
def TableSet.point (t : TableSet) (i : Nat) : Option PointEntry := t.points.getD i none
/-- Entry `k` of the Head Table. -/
def TableSet.head (t : TableSet) (k : Nat) : Option HeadEntry := t.heads.getD k none
/-- Entry `c` of the Curve Table. -/
def TableSet.curve (t : TableSet) (c : Nat) : Option Curve := t.curves.getD c none
/-- Entry `r` of the Condition Table. -/
def TableSet.row (t : TableSet) (r : Nat) : Option RowEntry := t.rows.getD r none
/-- Entry `l` of the zone plan. -/
def TableSet.zoneEntry (t : TableSet) (l : Nat) : Option ZoneEntry := t.zonePlan.getD l none
/-- The zone that the plan gives lane `l` (R120). -/
def TableSet.zoneOf (t : TableSet) (l : Nat) : Option Nat := (t.zoneEntry l).map (·.zone)
/-- Entry `l` of the lane plan. -/
def TableSet.plan (t : TableSet) (l : Nat) : Option LanePlan := t.lanePlan.getD l none

/-- Lane `l` is a member of zone `z`: it is below L and the plan places it there (R120). -/
def TableSet.isMember (t : TableSet) (lanes z l : Nat) : Bool := l < lanes && t.zoneOf l == some z

/-- The members of zone `z`, ascending (R120). -/
def TableSet.members (t : TableSet) (lanes z : Nat) : List Nat :=
  (List.range lanes).filter (t.isMember lanes z)

end Sys2Proof.Machine
end

