-- ==== Sys2Proof/Machine/State.lean ====
section
/-! DEFINITION. The state of the 7210 as plain data, its value at reset, and the reasons a step can stop. -/

namespace Sys2Proof.Machine

/-! ### Drive path -/

/-- Link lock (section 1.2). -/
inductive LinkState where
  | search | aligned | locked
  deriving DecidableEq, Repr

/-- A 68-word frame the 7210 sends, without its opening mark (section 11.2): word 1, word 2, words 3..66, word 67. -/
structure Frame where
  header : Word
  word2 : Word
  payload : List Word
  check : Word
  deriving DecidableEq, Repr

/-- The three link statistics (R14). -/
structure LinkStatistics where
  framesTaken : Nat
  checkFailures : Nat
  unknownLane : Nat
  deriving DecidableEq, Repr

/-! ### Sense controller -/

/-- The mode and quad input a head reported (section 2.2). -/
structure ReportedMode where
  mode : HeadMode
  quadInput : Nat
  deriving DecidableEq, Repr

/-- A command slot of a sweep frame (R18, R19). -/
inductive Slot where
  | nop
  | setMode (mode : HeadMode) (quadInput : Nat)
  deriving DecidableEq, Repr

/-- The in-flight sweep record (R18). -/
structure InFlight where
  sweep : SweepNo
  tag : BitVec 4
  chainLength : Nat
  slots : List Slot
  deriving DecidableEq, Repr

/-- The six sweep statistics (R35). -/
structure SweepStatistics where
  launched : Nat
  timeouts : Nat
  frameChecks : Nat
  headerMismatches : Nat
  countMismatches : Nat
  late : Nat
  deriving DecidableEq, Repr

/-! ### Points, rows, zones, lanes, budget -/

/-- Point states (R39), in the order of section 11.4. -/
inductive PointState where
  | valid | stale | held | noValue
  deriving DecidableEq, Repr

/-- A point record (R39); `value` is none exactly in NO_VALUE. -/
structure PointRecord where
  state : PointState
  value : Option Nat
  overRange : Bool
  noisy : Bool
  deriving DecidableEq, Repr

/-- Row phases (R55). -/
inductive RowPhase where
  | idle | pending | asserted | clearing
  deriving DecidableEq, Repr

/-- A row's runtime record (R55). -/
structure RowRuntime where
  phase : RowPhase
  progress : Nat
  latched : Bool
  seen : Bool
  firstSweep : Option SweepNo
  assertions : Nat
  extreme : Option Nat
  ceilingInForce : Option Nat
  deriving DecidableEq, Repr

/-- Zone states (R121). -/
inductive ZoneState where
  | normal | blank | lockout
  deriving DecidableEq, Repr

/-- A zone record (R121); the arc history has the oldest entry first. -/
structure Zone where
  state : ZoneState
  blankRemaining : Nat
  arcHistory : List SweepNo
  deriving DecidableEq, Repr

/-- Lane states (R98, R99). -/
inductive LaneState where
  | off | probe | ramp | on | blank | muted | lockout
  deriving DecidableEq, Repr

/-- A lane's mode (R96). -/
inductive LaneMode where
  | full | reduced
  deriving DecidableEq, Repr

/-- Lockout causes; the order is the code of chapter 11 (0 none, 1 ARC, 2 PROBE). -/
inductive LockoutCause where
  | none | arc | probe
  deriving DecidableEq, Repr

/-- A lane record (R96, R98): the operating fields, the scale fields and the rest. `restriking` is the mark that the
fifth stage leaves for lane handling (R82, R128). -/
structure Lane where
  onRequest : Bool
  mode : LaneMode
  setpoint : Nat
  state : LaneState
  ceiling : Nat
  demand : Nat
  grant : Nat
  budgetCeiling : Nat
  target : Nat
  applied : Nat
  probeRemaining : Nat
  retriesUsed : Nat
  lockoutCause : LockoutCause
  muteInvolvedLatch : Bool
  probeOwed : Bool
  firstTurnOnDone : Bool
  stateEntrySweep : SweepNo
  restriking : Bool
  deriving DecidableEq, Repr

/-- A member of a lane's mute causes (R109). -/
inductive MuteCause where
  | row (r : Nat)
  | inhibit
  | linkLoss
  | blindMute
  deriving DecidableEq, Repr

/-- The budget apportioner's state (R139). -/
structure Budget where
  value : Nat
  siteBudget : Nat
  demandSum : Nat
  short : Bool
  unassigned : Nat
  deriving DecidableEq, Repr

/-! ### Table store -/

/-- The site phase (R162). -/
inductive Phase where
  | setup | service
  deriving DecidableEq, Repr

/-- A valid activation that waits: the validated set with its resolved zones, and the deferral count (R157, R158). -/
structure WaitingActivation where
  tables : TableSet
  deferrals : Nat
  deriving DecidableEq, Repr

/-- The state that blocks an application, in the order R158 names them. -/
inductive Blocking where
  | blank | latched | lockout
  deriving DecidableEq, Repr

/-! ### Management and reporting -/

/-- A command that waits to be taken: its tag and its 64 payload words (R166). -/
structure QueuedCommand where
  tag : Tag
  payload : List Word
  deriving DecidableEq, Repr

/-- Results (R169), in the order of section 11.4. -/
inductive ReplyResult where
  | done | partialDone | queueFull | range | state | phaseLocked | inconsistent | unknown
  deriving DecidableEq, Repr

/-- A READ of the alert set: its members (R177). -/
structure AlertSet where
  rows : List Nat
  lanes : List Nat
  headLost : List Nat
  senseBlind : Bool
  linkLoss : Bool
  inhibit : Bool
  arcLineStuck : Bool
  deriving DecidableEq, Repr

/-- A pending entry as a READ returns it: undefined, or as loaded (R165). -/
inductive PendingEntry where
  | point (e : Option PointEntry)
  | head (e : Option HeadEntry)
  | curve (e : Option Curve)
  | row (e : Option RowEntry)
  | zone (e : Option ZoneEntry)
  | lane (e : Option LanePlan)
  | parameters (p : Parameters)
  deriving DecidableEq, Repr

/-- The data a reply carries (R169 to R171, and the chapters they name). -/
inductive ReplyData where
  | empty
  | loaded (part index : Word)
  | activated (sweep : SweepNo) (deferrals : Nat)
  | activationRefused (latchedRows lockedLanes : Nat)
  | activationAbandoned (blocking : Blocking)
  | inconsistent (code item : Nat)
  | siteInForce (record : SiteRecord)
  | laneInForce (state : LaneState) (onRequest : Bool) (mode : LaneMode) (setpoint : Nat)
  | cleared (stayedRows stayedLanes : List Nat) (unlatched returned unlocked : Nat)
  | lane (plan : Option LanePlan) (record : Lane) (causes : List MuteCause)
  | zone (record : Zone) (members : List Nat)
  | row (found : Option (RowEntry × RowRuntime)) (effective : Bool)
  | point (found : Option (PointEntry × PointRecord))
  | curve (found : Option Curve)
  | head (found : Option HeadEntry) (reported : Option ReportedMode) (staleCount : Nat) (lost : Bool)
  | siteRecord (record : SiteRecord) (phase : Phase) (activationPending : Bool) (budget : Budget)
  | parameters (p : Parameters)
  | pendingEntry (entry : PendingEntry)
  | linkStatistics (s : LinkStatistics)
  | sweepStatistics (s : SweepStatistics)
  | alertSet (members : AlertSet) (dropped : Bool) (droppedCount queueLength : Nat)
  | restarted (sweep : SweepNo)
  deriving DecidableEq, Repr

/-- The reply to one command (R169): its tag, the kind word as received, the result and the data. -/
structure Reply where
  tag : Tag
  kind : Word
  result : ReplyResult
  data : ReplyData
  deriving DecidableEq, Repr

/-- The refusal record when it is filled (R167): `tags` has bit t set when tag t was refused, and `ahead` counts the
replies that stand before the record in the reply order. -/
structure Refused where
  firstTag : Tag
  tags : BitVec 256
  count : Nat
  ahead : Nat
  deriving DecidableEq, Repr

/-- Notice subjects (R173). -/
inductive Subject where
  | row (r : Nat)
  | lane (l : Nat)
  | zone (z : Nat)
  | senseBlind
  | headLost (k : Nat)
  | arcLineStuck
  | spuriousArc
  deriving DecidableEq, Repr

/-- The new state or phase a notice carries (R70, R116, R134, R173). -/
inductive NoticeState where
  | row (phase : RowPhase) (latched : Bool)
  | lane (state : LaneState)
  | zone (state : ZoneState)
  | raised
  | released
  | spurious
  deriving DecidableEq, Repr

/-- The value a notice carries (R173). -/
inductive NoticeValue where
  | none
  | number (n : Nat)
  | cause (c : LockoutCause)
  deriving DecidableEq, Repr

/-- A notice (R173); its kind follows from its subject. -/
structure Notice where
  subject : Subject
  state : NoticeState
  value : NoticeValue
  sweep : SweepNo
  changes : Nat
  deriving DecidableEq, Repr

/-- A measurement in a snapshot: the point's value and state (R176). -/
structure Measurement where
  value : Option Nat
  state : PointState
  deriving DecidableEq, Repr

/-- One lane of a snapshot (R176). -/
structure SnapshotLane where
  state : LaneState
  applied : Nat
  forward : Option Measurement
  ratio : Option Measurement
  deriving DecidableEq, Repr

/-- A snapshot (R176). -/
structure Snapshot where
  sweep : SweepNo
  lanes : List SnapshotLane
  deriving DecidableEq, Repr

/-! ### The evaluation in progress -/

/-- What is held while an evaluation is in progress: whether the removal of ARC_LINE is decided (R133), each lane's
state to which step 7 compares for its notice (R116), the lanes that an INHIBIT or LINK_LOSS event has muted since
step 2 of lane handling (R82), and, for each lane that a zone's entry into BLANK has moved and step 2 has still to settle,
the state it held when the fifth stage began (R82, R127). -/
structure EvalProgress where
  removalDecided : Bool
  startStates : List LaneState
  mutedSince : List Bool
  movedFrom : List (Option LaneState)
  deriving DecidableEq, Repr

/-! ### The state -/

/-- The whole state of the 7210. `pending` is the queue of commands that wait to be sent to the block; every other
field is the block's own. -/
structure State where
  /-- RESET_N is low (R181). -/
  inReset : Bool
  /-- INHIBIT_N is low. -/
  inhibitLow : Bool
  /-- ARC_N is low. -/
  arcLow : Bool
  /-- The PROBE_POL level sampled at the last release (R102). -/
  probePolHigh : Bool
  link : LinkState
  goodFrames : Nat
  badFrames : Nat
  multipliers : List Nat
  holdingSlots : List (Option Frame)
  /-- ARC_LINE is a member of the force-zero set. -/
  forceArcLine : Bool
  /-- INHIBIT is a member of the force-zero set. -/
  forceInhibit : Bool
  resolvingSweep : SweepNo
  /-- The mask flag; ARC_LINE_STUCK is raised exactly while it is set (R10, R132). -/
  arcMasked : Bool
  reportHold : Bool
  linkStatistics : LinkStatistics
  /-- The last frame each lane port has sent since the release, none before the first. -/
  lanePorts : List (Option Frame)
  /-- The last frame the return direction has sent since the release. -/
  returnPort : Option Frame
  /-- The last sweep frame sent on the loop output since the release, from its opening mark. -/
  loopOutput : Option (List Word)
  inFlight : Option InFlight
  sweepNumber : SweepNo
  /-- The length of the running timer interval, in units of 100 µs (R17). -/
  intervalPeriod : Nat
  reportedModes : List (Option ReportedMode)
  consecutiveFailures : Nat
  staleCounts : List Nat
  senseBlind : Bool
  headLost : List Bool
  blindMute : Bool
  sweepStatistics : SweepStatistics
  pointRecords : List (Option PointRecord)
  rowRuntimes : List (Option RowRuntime)
  zones : List Zone
  lanes : List Lane
  budget : Budget
  activeSet : TableSet
  pendingSet : TableSet
  waiting : Option WaitingActivation
  siteRecord : SiteRecord
  phase : Phase
  commands : List QueuedCommand
  replies : List Reply
  refusal : Option Refused
  notices : List Notice
  noticesDropped : Bool
  droppedCount : Nat
  snapshotCount : Nat
  snapshot : Option Snapshot
  evaluation : Option EvalProgress
  /-- The sweep number of the most recent evaluation, 0 before the first (R98). -/
  lastEvaluation : SweepNo
  /-- The model's own: the number of draws made from the free values of Config. -/
  draws : Nat
  /-- The model's own: the commands that wait to be sent to the block, first in, first out. -/
  pending : List Instr
  deriving DecidableEq, Repr

/-! ### Why a step stops -/

/-- The reasons the machine could stop with a fault: none. The spec describes an effect for every event in every state,
so the type has no constructor (safe: nothing is hidden behind a fault). -/
inductive Fault : Type
  deriving DecidableEq, Repr

/-- The reasons a command could be refused. -/
inductive Refusal where
  /-- Raised by `exec` alone, for a command that has no meaning yet; no arm uses it (safe: the model stops). -/
  | notModelled (mnemonic : String)
  deriving DecidableEq, Repr

/-! ### Reset values -/

/-- A lane record at the release of RESET_N (R93, R96, R118). -/
def Lane.initial : Lane where
  onRequest := false
  mode := .full
  setpoint := 1000
  state := .off
  ceiling := 0
  demand := 0
  grant := 0
  budgetCeiling := 0
  target := 0
  applied := 0
  probeRemaining := 0
  retriesUsed := 0
  lockoutCause := .none
  muteInvolvedLatch := false
  probeOwed := false
  firstTurnOnDone := false
  stateEntrySweep := 0
  restriking := false

/-- A zone record at the release of RESET_N (R137). -/
def Zone.initial : Zone := { state := .normal, blankRemaining := 0, arcHistory := [] }

/-- A point record without a value (R49, R51). -/
def PointRecord.initial : PointRecord := { state := .noValue, value := none, overRange := false, noisy := false }

/-- A row's starting values (R55). -/
def RowRuntime.initial : RowRuntime where
  phase := .idle
  progress := 0
  latched := false
  seen := false
  firstSweep := none
  assertions := 0
  extreme := none
  ceilingInForce := none

/-- The apportioner at the release of RESET_N (R149). -/
def Budget.initial : Budget := { value := 1000, siteBudget := 0, demandSum := 0, short := false, unassigned := 0 }

/-- The state at the release of RESET_N with both fault pins high (R15, R36, R51, R76, R118, R137, R149, R164, R178).
The pin levels and the PROBE_POL sample are inputs; the log entries 3 and 4 name the levels chosen here. -/
def State.reset : State where
  inReset := false
  inhibitLow := false
  arcLow := false
  probePolHigh := false
  link := .search
  goodFrames := 0
  badFrames := 0
  multipliers := List.replicate laneCount 0
  holdingSlots := List.replicate laneCount none
  forceArcLine := false
  forceInhibit := false
  resolvingSweep := 0
  arcMasked := false
  reportHold := false
  linkStatistics := { framesTaken := 0, checkFailures := 0, unknownLane := 0 }
  lanePorts := List.replicate laneCount none
  returnPort := none
  loopOutput := none
  inFlight := none
  sweepNumber := 0
  intervalPeriod := 10
  reportedModes := List.replicate headCount none
  consecutiveFailures := 0
  staleCounts := List.replicate headCount 0
  senseBlind := false
  headLost := List.replicate headCount false
  blindMute := false
  sweepStatistics :=
    { launched := 0, timeouts := 0, frameChecks := 0, headerMismatches := 0, countMismatches := 0, late := 0 }
  pointRecords := List.replicate pointCount none
  rowRuntimes := List.replicate rowCount none
  zones := List.replicate zoneCount Zone.initial
  lanes := List.replicate laneCount Lane.initial
  budget := Budget.initial
  activeSet := TableSet.empty
  pendingSet := TableSet.empty
  waiting := none
  siteRecord := SiteRecord.default
  phase := .setup
  commands := []
  replies := []
  refusal := none
  notices := []
  noticesDropped := false
  droppedCount := 0
  snapshotCount := 0
  snapshot := none
  evaluation := none
  lastEvaluation := 0
  draws := 0
  pending := []

end Sys2Proof.Machine
end

