-- ==== Sys2Proof/Machine/Operands.lean ====
section
/-! DEFINITION. Operand forms: the words of a command payload (section 11.3), and the table entries that a LOAD spells,
with the range checks of R38, R53, R54, R79, R95, R120 and R153. A parser answers none where the LOAD gets RANGE. -/

namespace Sys2Proof.Machine

/-! ### Payload words -/

/-- A payload of exactly 64 words that begins with `ws`; words not given are 0 (R180). -/
def payloadOf (ws : List Word) : List Word := (ws ++ List.replicate 64 0).take 64

/-- Frame word `k` of a payload; the payload's first word is frame word 3 (section 11.2). -/
def frameWord (payload : List Word) (k : Nat) : Word := payload.getD (k - 3) 0

/-- Word `i` of a list of argument words, as a number; words not given are 0. -/
def arg (ws : List Word) (i : Nat) : Nat := (ws.getD i 0).toNat

/-- Words `i` and `i + 1` as one value, high word first (chapter 11). -/
def arg32 (ws : List Word) (i : Nat) : Nat := arg ws i * 65536 + arg ws (i + 1)

/-- Every bit of the word is set: the code of none, and of a field left to its default (sections 11 and 11.3). -/
def allOnes : Nat := 65535

/-- A value given in a range, or none. -/
def inRange (low high v : Nat) : Option Nat := if low ≤ v ∧ v ≤ high then some v else none

/-- A field with a load default: all ones takes the default, any other value must lie in the range (section 11.3). -/
def withDefault (default low high v : Nat) : Option Nat := if v = allOnes then some default else inRange low high v

/-- A list position as an enumerated value: the code is the position (chapter 11). -/
def coded {α : Type} (values : List α) (code : Nat) : Option α := values[code]?

/-! ### Scopes -/

/-- A scope in two words: the kind (LANE 0, ZONE 1, SITE 2), then the index, which is 0 for SITE (chapter 11; log
entries 9 and 10). -/
def parseScope (kind index : Nat) : Option Scope :=
  match kind with
  | 0 => if index < laneCount then some (.lane index) else none
  | 1 => if index < zoneCount then some (.zone index) else none
  | 2 => if index = 0 then some .site else none
  | _ => none

/-- An arc scope in two words, with scope kind 3 for NONE; LANE gets RANGE (section 11.3). -/
def parseArcScope (kind index : Nat) : Option ArcScope :=
  match kind with
  | 1 => if index < zoneCount then some (.zone index) else none
  | 2 => if index = 0 then some .site else none
  | 3 => if index = 0 then some .none else none
  | _ => none

/-! ### Entries -/

/-- The point kinds in the order of R38. -/
def pointKinds : List PointKind := [.fwd, .ref, .ratio, .temp, .flow, .level]
/-- The folds in the order of R38. -/
def folds : List Fold := [.peak, .trough, .mean, .last]
/-- The head modes in the order of R153. -/
def headModes : List HeadMode := [.spread, .quad]
/-- The senses in the order of R53. -/
def senses : List Sense := [.above, .below]
/-- The actions in the order of R53. -/
def actions : List Action := [.note, .ceiling, .mute, .arc]
/-- The latch values in the order of R53. -/
def latches : List Latch := [.self, .latch]
/-- The report values in the order of R53. -/
def reports : List Report := [.alert, .quiet]
/-- The values of gated and scaled in the order of R53: yes, then no (log entry 11). -/
def yesNo : List Bool := [true, false]
/-- The probe policies in the order of R95. -/
def probePolicies : List ProbePolicy := [.followStrap, .always, .afterFault]

/-- A signed 16-bit value in two's complement (section 11.3: a point's offset). -/
def signedWord (w : Nat) : Int := if w < 32768 then (w : Int) else (w : Int) - 65536

/-- A point entry: kind, scope, then the source's fields (R38, section 11.3). -/
def parsePoint (f : List Word) : Option PointEntry := do
  let kind ← coded pointKinds (arg f 0)
  let scope ← parseScope (arg f 1) (arg f 2)
  if kind = .ratio then
    let forward ← inRange 0 63 (arg f 3)
    let reflected ← inRange 0 63 (arg f 4)
    return { kind, scope, source := .ratio forward reflected }
  else
    let position ← inRange 0 15 (arg f 3)
    let input ← inRange 0 3 (arg f 4)
    let fold ← coded folds (arg f 5)
    return { kind, scope, source := .head position input fold (arg f 6) (signedWord (arg f 7)) }

/-- A Head Table entry: expected id (16 for ANY), mode, quad input, arc scope in two words (R153, section 11.3). A
SPREAD entry holds quad input 0. -/
def parseHead (f : List Word) : Option HeadEntry := do
  let id ← inRange 0 16 (arg f 0)
  let mode ← coded headModes (arg f 1)
  let quad ← inRange 0 3 (arg f 2)
  let arcScope ← parseArcScope (arg f 3) (arg f 4)
  return { expectedId := if id = 16 then none else some id, mode
           quadInput := if mode = .spread then 0 else quad, arcScope }

/-- The breakpoints of a curve from field `i` on, x then y (section 11.3); x may be any word and y is 0..1250 (R79). -/
def parseBreakpoints (f : List Word) : Nat → Nat → Option Curve
  | 0, _ => some []
  | n + 1, i => do
    let y ← inRange 0 1250 (arg f (i + 1))
    let rest ← parseBreakpoints f n (i + 2)
    return { x := arg f i, y } :: rest

/-- A curve entry: a breakpoint count of 2..8, then the breakpoints; their order is not checked (R79). -/
def parseCurve (f : List Word) : Option Curve := do
  let n ← inRange 2 8 (arg f 0)
  parseBreakpoints f n 1

/-- The ceiling of a row in two words: a form word, then the permille or the curve index. A CEILING row carries one, a
row of any other action gives both words all ones (R54, section 11.3). The outer none is RANGE. -/
def parseCeiling (action : Action) (form value : Nat) : Option (Option CeilingForm) :=
  if action = .ceiling then
    match form with
    | 0 => (inRange 0 1250 value).map fun v => some (.fixed v)
    | 1 => (inRange 0 3 value).map fun c => some (.curve c)
    | _ => none
  else if form = allOnes ∧ value = allOnes then some none
  else none

/-- The relation between threshold and release (R54): ABOVE has release at most threshold, BELOW at least. -/
def thresholdsAgree (sense : Sense) (threshold release : Nat) : Bool :=
  match sense with
  | .above => release ≤ threshold
  | .below => threshold ≤ release

/-- A row with scaled yes has scope LANE(l) (R54). -/
def scaledAgrees (scaled : Bool) (scope : Scope) : Bool :=
  match scope with
  | .lane _ => true
  | _ => !scaled

/-- A Condition Table entry, its fields in the order of R53, with the relations of R54. -/
def parseRow (f : List Word) : Option RowEntry := do
  let source ← inRange 0 63 (arg f 0)
  let sense ← coded senses (arg f 1)
  let qualifyCount ← inRange 1 255 (arg f 4)
  let releaseCount ← inRange 1 255 (arg f 5)
  let action ← coded actions (arg f 6)
  let ceiling ← parseCeiling action (arg f 7) (arg f 8)
  let scope ← parseScope (arg f 9) (arg f 10)
  let outlast ← coded latches (arg f 11)
  let report ← coded reports (arg f 12)
  let gated ← coded yesNo (arg f 13)
  let scaled ← coded yesNo (arg f 14)
  if thresholdsAgree sense (arg f 2) (arg f 3) && scaledAgrees scaled scope then
    return { source, sense, threshold := arg f 2, release := arg f 3, qualifyCount, releaseCount
             action, ceiling, scope, latch := outlast, report, gated, scaled }
  else none

/-- A zone plan entry: one word, the zone 0..7 (R120). -/
def parseZone (f : List Word) : Option ZoneEntry :=
  (inRange 0 7 (arg f 0)).map fun z => { zone := z, fromDefault := false }

/-- A budget class in two words: a form word (0 strict, 1 weighted), then rank 1..8 or weight 1..127 (R95, section 11.3). -/
def parseBudgetClass (form value : Nat) : Option BudgetClass :=
  match form with
  | 0 => (inRange 1 8 value).map .strict
  | 1 => (inRange 1 127 value).map .weighted
  | _ => none

/-- A lane plan entry, its fields in the order of R95; the calibration scale is wider than 16 bits and takes two words
(chapter 11; log entry 12). -/
def parseLanePlan (f : List Word) : Option LanePlan := do
  let ratedWatts ← inRange 1 65535 (arg f 0)
  let pcal ← inRange 1 65536 (arg32 f 1)
  let ratioPoint ← if arg f 3 = allOnes then some none else (inRange 0 63 (arg f 3)).map some
  let budgetClass ← parseBudgetClass (arg f 4) (arg f 5)
  let reducedLevel ← withDefault 500 100 1000 (arg f 6)
  let rampRate ← withDefault 5 1 1000 (arg f 7)
  let probePolicy ← if arg f 8 = allOnes then some .followStrap else coded probePolicies (arg f 8)
  return { ratedWatts, pcal, ratioPoint, budgetClass, reducedLevel, rampRate, probePolicy }

/-- The Protection Parameters, fourteen words in the order of R153; each has a default that all ones takes. -/
def parseParameters (f : List Word) : Option Parameters := do
  let blindCeiling ← withDefault 500 0 1000 (arg f 0)
  let blindMuteCount ← withDefault 20 1 255 (arg f 1)
  let headLossLimit ← withDefault 5 1 15 (arg f 2)
  let budgetPoint ← if arg f 3 = allOnes then some none else (inRange 0 63 (arg f 3)).map some
  let budgetCurve ← withDefault 0 0 3 (arg f 4)
  let arcWindow ← withDefault 10000 1 65535 (arg f 5)
  let arcLimit ← withDefault 4 1 8 (arg f 6)
  let blankingCount ← withDefault 20 1 255 (arg f 7)
  let restrikeLevel ← withDefault 300 0 1000 (arg f 8)
  let probeLevel ← withDefault 50 10 200 (arg f 9)
  let probeLength ← withDefault 10 2 255 (arg f 10)
  let probeRatioLimit ← withDefault 1000 0 10000 (arg f 11)
  let probeRetries ← withDefault 1 0 3 (arg f 12)
  let snapshotInterval ← withDefault 0 0 65535 (arg f 13)
  return { blindCeiling, blindMuteCount, headLossLimit, budgetPoint, budgetCurve, arcWindow, arcLimit
           blankingCount, restrikeLevel, probeLevel, probeLength, probeRatioLimit, probeRetries, snapshotInterval }

/-- The seven fields of a SITE command, B_max in two words (R161, section 11.3): L, Z, N, sweep period, fail limit,
ratio floor, B_max. -/
def parseSite (f : List Word) : Option SiteRecord := do
  let lanes ← inRange 1 8 (arg f 0)
  let zones ← if arg f 1 = 1 ∨ arg f 1 = 2 ∨ arg f 1 = 4 ∨ arg f 1 = 8 then inRange 1 lanes (arg f 1) else none
  let heads ← inRange 1 16 (arg f 2)
  let sweepPeriod ← inRange 1 100 (arg f 3)
  let failLimit ← inRange 1 15 (arg f 4)
  let ratioFloor ← inRange 10 200 (arg f 5)
  let siteMaximum ← inRange 1 1000000 (arg32 f 6)
  return { lanes, zones, heads, sweepPeriod, failLimit, ratioFloor, siteMaximum }

/-- What a LOAD of an entry writes: the outer none is RANGE; the inner none is the entry written undefined, which always
passes (R152). The defined word is 1 or 0 (section 11.3). -/
def parseEntry {α : Type} (parse : List Word → Option α) (definedWord : Word) (fields : List Word) :
    Option (Option α) :=
  match definedWord.toNat with
  | 0 => some none
  | 1 => (parse fields).map some
  | _ => none

/-! ### Commands -/

/-- A command as its payload spells it (section 11.3, R180). Argument words are kept as received. -/
inductive Command where
  | load (part index definedWord : Word) (fields : List Word)
  | discard
  | activate
  | site (fields : List Word)
  | lane (lane onWord modeWord setpointGiven setpoint : Word)
  | clear (seenOption rows0 rows1 rows2 rows3 lanes zones : Word)
  | read (item index part : Word)
  | restart
  | unknown
  deriving DecidableEq, Repr

/-- The command that word 3 and the words after it spell (R180, section 11.3). -/
def decodeCommand (p : List Word) : Command :=
  match (frameWord p 3).toNat with
  | 1 => .load (frameWord p 4) (frameWord p 5) (frameWord p 6) (p.drop 4)
  | 2 => .discard
  | 3 => .activate
  | 4 => .site (p.drop 1)
  | 5 => .lane (frameWord p 4) (frameWord p 5) (frameWord p 6) (frameWord p 7) (frameWord p 8)
  | 6 => .clear (frameWord p 4) (frameWord p 5) (frameWord p 6) (frameWord p 7) (frameWord p 8) (frameWord p 9)
      (frameWord p 10)
  | 7 => .read (frameWord p 4) (frameWord p 5) (frameWord p 6)
  | 8 => .restart
  | _ => .unknown

end Sys2Proof.Machine
end

