-- ==== Sys2Proof/Machine/Arithmetic.lean ====
section
/-! DEFINITION. The integer arithmetic of the spec (00_scope Arithmetic, chapter 5): exact on Nat and Int, rounded down
where a rule says floor. -/

namespace Sys2Proof.Machine

/-! ### Saturation, clamping, square root -/

/-- A saturating count's next value (00_scope: "stop at their greatest value instead of wrapping"). -/
def saturatingSucc (greatest n : Nat) : Nat := if n < greatest then n + 1 else greatest

/-- The greatest value of a 32-bit statistic (R14, R35). -/
def greatest32 : Nat := 4294967295

/-- Clamped to a range (00_scope Arithmetic). -/
def clampInt (low high v : Int) : Int := if v < low then low else if high < v then high else v

/-- One bit of the square root: keep the bit when the square of the candidate does not exceed `n`. -/
def isqrtFrom (n : Nat) : Nat → Nat → Nat
  | 0, root => root
  | k + 1, root =>
    let candidate := root + 2 ^ k
    if candidate * candidate ≤ n then isqrtFrom n k candidate else isqrtFrom n k root

/-- Integer square root: the greatest integer whose square does not exceed `n` (00_scope Arithmetic). The root has at
most half the bits of `n`, rounded up. -/
def isqrt (n : Nat) : Nat := isqrtFrom n (n.log2 / 2 + 1) 0

/-! ### Drive path -/

/-- The multiplier of an applied scale, in 1/32768 (R5, R92). -/
def multiplierOf (applied : Nat) : Nat := isqrt (16384 * applied)

/-- One output sample (R6): floor((x × m + 16384) / 32768), saturated to −32768..32767. -/
def scaleSample (m : Nat) (x : Word) : Word :=
  BitVec.ofInt 16 (clampInt (-32768) 32767 ((x.toInt * m + 16384) / 32768))

/-! ### Points -/

/-- The greatest value of a point kind (R38). -/
def PointKind.maximum : PointKind → Nat
  | .fwd => 2000
  | .ref => 2000
  | .ratio => 10000
  | .temp => 2500
  | .flow => 10000
  | .level => 65535

/-- The value of a converted point (R42): floor(raw × gain / 4096) + offset, clamped to 0..the kind maximum. -/
def convertRaw (kind : PointKind) (raw gain : Nat) (offset : Int) : Nat :=
  (clampInt 0 kind.maximum (((raw * gain / 4096 : Nat) : Int) + offset)).toNat

/-- The fold of four QUAD samples (R41); `s0` is the oldest. -/
def foldSamples (fold : Fold) (s0 s1 s2 s3 : Nat) : Nat :=
  match fold with
  | .peak => max (max s0 s1) (max s2 s3)
  | .trough => min (min s0 s1) (min s2 s3)
  | .mean => (s0 + s1 + s2 + s3) / 4
  | .last => s3

/-- A return ratio (R44): min(10000, floor(10000 × R / F)). -/
def returnRatio (forward reflected : Nat) : Nat := min 10000 (10000 * reflected / forward)

/-! ### Curves -/

/-- The interpolation on one segment (R80): y(k) + floor((y(k+1) − y(k)) × (v − x(k)) / (x(k+1) − x(k))). -/
def interpolate (p q : Breakpoint) (v : Nat) : Nat :=
  ((p.y : Int) + ((q.y : Int) - p.y) * ((v : Int) - p.x) / ((q.x : Int) - p.x)).toNat

/-- A curve at a value (R80). A value at an inner breakpoint falls in the segment that starts there. -/
def curveValue : Curve → Nat → Nat
  | [], _ => 0
  | [p], _ => p.y
  | p :: q :: rest, v =>
    if v ≤ p.x then p.y
    else if v < q.x then interpolate p q v
    else curveValue (q :: rest) v

/-! ### Lane scales -/

/-- Demand in watts (R85). -/
def demandOf (ratedWatts ceiling : Nat) : Nat := ratedWatts * ceiling / 1000

/-- The budget ceiling (R86). -/
def budgetCeilingOf (ratedWatts ceiling demand grant : Nat) : Nat :=
  if grant = demand then ceiling else 1000 * grant / ratedWatts

/-- The target scale of a driven lane (R87). -/
def targetOf (pcal budgetCeiling : Nat) : Nat := min 65536 (pcal * budgetCeiling / 1000)

/-- A permille of the calibration scale: the probe scale and the restrike scale (R88). -/
def levelScale (pcal level : Nat) : Nat := pcal * level / 1000

/-- The ramp step (R89). -/
def rampStep (pcal rampRate : Nat) : Nat := max 1 (pcal * rampRate / 1000)

/-- The default zone of a lane (R120): floor(l × Z / L). -/
def defaultZone (lanes zones l : Nat) : Nat := l * zones / lanes

/-! ### Sweep numbers -/

/-- Sweep `s` is at or after sweep `r` (R130): (s − r) modulo 2^32 is less than 2^31. -/
def atOrAfter (s r : SweepNo) : Bool := (s - r).toNat < 2147483648

/-- An arc history entry has left the window (R125): (s − e) modulo 2^32 is at least the arc window. -/
def outOfWindow (window : Nat) (s e : SweepNo) : Bool := window ≤ (s - e).toNat

end Sys2Proof.Machine
end

