-- ==== Sys2Proof/Machine/Flags.lean ====
section
/-! DEFINITION. Flags and sets that follow from the state: the system conditions, the lanes and zones a row covers, the
mute causes, the alert set, ALERT_N and the site summary. Each has one home in the state and is computed from it. -/

namespace Sys2Proof.Machine

/-! ### Reading one record -/

/-- Lane record `l`. -/
def State.lane (s : State) (l : Nat) : Lane := s.lanes.getD l Lane.initial
/-- Zone record `z`. -/
def State.zone (s : State) (z : Nat) : Zone := s.zones.getD z Zone.initial
/-- The point record of entry `i`, none for an undefined entry (R39). -/
def State.pointRecord (s : State) (i : Nat) : Option PointRecord := s.pointRecords.getD i none
/-- The runtime record of row `r`, none for an undefined entry (R55). -/
def State.rowRuntime (s : State) (r : Nat) : Option RowRuntime := s.rowRuntimes.getD r none
/-- The held multiplier of lane `l` (R5). -/
def State.multiplier (s : State) (l : Nat) : Nat := s.multipliers.getD l 0
/-- The mode last reported at head position `k`; none is UNKNOWN (section 2.2). -/
def State.reportedMode (s : State) (k : Nat) : Option ReportedMode := s.reportedModes.getD k none
/-- The stale count of head position `k` (R33). -/
def State.staleCount (s : State) (k : Nat) : Nat := s.staleCounts.getD k 0
/-- HEAD_LOST(k) is raised (R33). -/
def State.isHeadLost (s : State) (k : Nat) : Bool := s.headLost.getD k false

/-- An undefined point counts as one in state NO_VALUE (R140). -/
def State.pointOrNone (s : State) (i : Nat) : PointRecord := (s.pointRecord i).getD PointRecord.initial

/-! ### System conditions -/

/-- LINK_LOSS is raised whenever the link is not LOCKED (R3, R16). -/
def State.linkLoss (s : State) : Bool := s.link != .locked

/-- ARC_LINE_STUCK is raised while the mask flag is set (R10, R132, R137). -/
def State.arcLineStuck (s : State) : Bool := s.arcMasked

/-- The force-zero set has a member (R6). -/
def State.forceZero (s : State) : Bool := s.forceArcLine || s.forceInhibit

/-- A valid activation waits (R157). -/
def State.activationPending (s : State) : Bool := s.waiting.isSome

/-- An evaluation is in progress. -/
def State.evaluating (s : State) : Bool := s.evaluation.isSome

/-! ### Rows -/

/-- A row is effective while ASSERTED or CLEARING, and while latched whatever its phase (R64). -/
def RowRuntime.effective (r : RowRuntime) : Bool := r.phase == .asserted || r.phase == .clearing || r.latched

/-- The lanes a scope covers (R65). -/
def covers (t : TableSet) (lanes : Nat) (scope : Scope) (l : Nat) : Bool :=
  match scope with
  | .lane l' => l == l'
  | .zone z => t.isMember lanes z l
  | .site => l < lanes

/-- The zones a scope reaches (R65). -/
def reaches (t : TableSet) (zones : Nat) (scope : Scope) (z : Nat) : Bool :=
  match scope with
  | .lane l => z < zones && t.zoneOf l == some z
  | .zone z' => z == z' && z < zones
  | .site => z < zones

/-- Row `r` is defined and effective, and its definition satisfies `p`. -/
def State.effectiveRow (s : State) (p : RowEntry → Bool) (r : Nat) : Bool :=
  match s.activeSet.row r, s.rowRuntime r with
  | some d, some q => q.effective && p d
  | _, _ => false

/-- Row `r` is a mute cause of lane `l`: an effective MUTE row that covers it (R67). -/
def State.rowMutes (s : State) (l r : Nat) : Bool :=
  s.effectiveRow (fun d => d.action == .mute && covers s.activeSet s.siteRecord.lanes d.scope l) r

/-- The rows among a lane's mute causes, ascending (R109). -/
def State.mutingRows (s : State) (l : Nat) : List Nat := (List.range rowCount).filter (s.rowMutes l)

/-- The system causes, which every lane holds alike (R109). -/
def State.systemCauses (s : State) : List MuteCause :=
  (if s.forceInhibit then [MuteCause.inhibit] else []) ++ (if s.linkLoss then [MuteCause.linkLoss] else []) ++
    (if s.blindMute then [MuteCause.blindMute] else [])

/-- The mute causes of lane `l` (R109). DESIGN CHOICE (log entry 36): as a list they stand with the rows first in ascending
index, then INHIBIT, LINK_LOSS and BLIND_MUTE. -/
def State.muteCauses (s : State) (l : Nat) : List MuteCause := (s.mutingRows l).map .row ++ s.systemCauses

/-- A lane's mute causes include a MUTE row with latch LATCH (R111). -/
def State.latchedMute (s : State) (l : Nat) : Bool :=
  (List.range rowCount).any fun r => s.rowMutes l r && s.effectiveRow (fun d => d.latch == .latch) r

/-- Any row of the active Condition Table is latched (R155, R158). -/
def State.latchedRows (s : State) : List Nat :=
  (List.range rowCount).filter fun r => match s.activeSet.row r, s.rowRuntime r with
    | some _, some q => q.latched
    | _, _ => false

/-- The lanes in LOCKOUT (R155, R158, R177). -/
def State.lockedLanes (s : State) : List Nat := (List.range laneCount).filter fun l => (s.lane l).state == .lockout

/-! ### Alert set, ALERT_N, site summary -/

/-- The alert set (R177): empty while RESET_N is low (R181). -/
def State.alertSet (s : State) : AlertSet :=
  if s.inReset then
    { rows := [], lanes := [], headLost := [], senseBlind := false, linkLoss := false, inhibit := false
      arcLineStuck := false }
  else
    { rows := (List.range rowCount).filter (s.effectiveRow fun d => d.report == .alert)
      lanes := s.lockedLanes
      headLost := (List.range headCount).filter s.isHeadLost
      senseBlind := s.senseBlind
      linkLoss := s.linkLoss
      inhibit := s.forceInhibit
      arcLineStuck := s.arcLineStuck }

/-- The alert set has no member. -/
def AlertSet.isEmpty (a : AlertSet) : Bool :=
  a.rows.isEmpty && a.lanes.isEmpty && a.headLost.isEmpty && !a.senseBlind && !a.linkLoss && !a.inhibit && !a.arcLineStuck

/-- ALERT_N is low if and only if the alert set is non-empty (R177), at each moment by the set as it then stands (log entry
37). -/
def State.alertLow (s : State) : Bool := !s.alertSet.isEmpty

/-- A set of bits, bit `i` set when the list's entry `i` is. -/
def bitsOf : List Bool → Nat
  | [] => 0
  | b :: rest => b.toNat + 2 * bitsOf rest

/-- The site summary word (R13, section 11.2). DESIGN CHOICE (log entry 37): its alert bit is the alert set's as it stands
at that boundary, also inside an evaluation that has emptied the set and may still refill it. -/
def State.siteSummary (s : State) : Word :=
  BitVec.ofNat 16 (bitsOf
    [s.phase == .service,
     s.alertLow,
     s.senseBlind,
     s.forceInhibit,
     s.linkLoss,
     (List.range laneCount).any fun l => (s.lane l).state == .lockout,
     (List.range laneCount).any fun l => (s.lane l).state == .muted,
     s.noticesDropped,
     s.activationPending])

end Sys2Proof.Machine
end

