-- ==== Sys2Proof/Machine/Ops.lean ====
section
/-! DEFINITION. The named operations over registers, records and queues that every family uses. -/

namespace Sys2Proof.Machine

/-! ### Writing one record -/

/-- Rewrites lane record `l`. -/
def State.setLane (s : State) (l : Nat) (v : Lane) : State := { s with lanes := s.lanes.set l v }
/-- Rewrites zone record `z`. -/
def State.setZone (s : State) (z : Nat) (v : Zone) : State := { s with zones := s.zones.set z v }
/-- Rewrites the runtime record of row `r`. -/
def State.setRow (s : State) (r : Nat) (v : RowRuntime) : State :=
  { s with rowRuntimes := s.rowRuntimes.set r (some v) }
/-- Rewrites the point record of entry `i`. -/
def State.setPoint (s : State) (i : Nat) (v : PointRecord) : State :=
  { s with pointRecords := s.pointRecords.set i (some v) }
/-- The drive path takes an applied scale for lane `l` and holds its multiplier (R5, R92). -/
def State.handOver (s : State) (l applied : Nat) : State :=
  { s with multipliers := s.multipliers.set l (multiplierOf applied) }

/-- A lane record whose applied scale is set is handed to the drive path at once (R92). -/
def State.setLaneScaled (s : State) (l : Nat) (v : Lane) : State := (s.setLane l v).handOver l v.applied

/-- Runs an operation on each index of a list, in order. -/
def forEach (indices : List Nat) (f : Nat → State → State) (s : State) : State :=
  indices.foldl (fun s i => f i s) s

/-- What other blocks do at a place of an evaluation: the effect of the events taken there (R27). -/
abbrev Meanwhile := EvalPoint → State → State

/-- No event is taken during the evaluation. -/
def undisturbed : Meanwhile := fun _ s => s

/-! ### The notice queue -/

/-- The capacity of the notice queue (R174). -/
def noticeCapacity : Nat := 16

/-- A queued notice takes the new notice's state, value and sweep number, and one more change (R174). -/
def Notice.coalesce (old new : Notice) : Notice := { new with changes := saturatingSucc 255 old.changes }

/-- Queues a notice (R174): an update in place, a new notice at the tail, or a drop that is counted. -/
def State.queueNotice (s : State) (n : Notice) : State :=
  if s.notices.any (fun m => m.subject == n.subject) then
    { s with notices := s.notices.map fun m => if m.subject = n.subject then m.coalesce n else m }
  else if s.notices.length < noticeCapacity then
    { s with notices := s.notices ++ [{ n with changes := 1 }] }
  else
    { s with noticesDropped := true, droppedCount := saturatingSucc 65535 s.droppedCount }

/-- Queues a notice when there is one. -/
def State.queueNotice? (s : State) (n : Option Notice) : State :=
  match n with
  | some n => s.queueNotice n
  | none => s

/-- Queues the notice of each index that has one, in order, with what other blocks do after each (R175). -/
def State.queueEach (s : State) (indices : List Nat) (notice : Nat → Option Notice) (after : Nat → State → State) :
    State :=
  forEach indices (fun i s => after i (s.queueNotice? (notice i))) s

/-- The value a notice shows for a measured quantity (section 11.4: all ones for none). -/
def NoticeValue.ofOption : Option Nat → NoticeValue
  | .some v => .number v
  | .none => .none

/-- A row's notice (R70). -/
def rowNotice (r : Nat) (phase : RowPhase) (latched : Bool) (value : Option Nat) (sweep : SweepNo) : Notice :=
  { subject := .row r, state := .row phase latched, value := .ofOption value, sweep, changes := 1 }

/-- A lane's notice (R116): the value is the lockout cause for an entry into LOCKOUT, otherwise the applied scale. -/
def laneNotice (l : Nat) (v : Lane) : Notice :=
  { subject := .lane l, state := .lane v.state
    value := if v.state = .lockout then .cause v.lockoutCause else .number v.applied
    sweep := v.stateEntrySweep, changes := 1 }

/-- A zone's notice (R134): the value is the length of the arc history after the change. -/
def zoneNotice (z : Nat) (v : Zone) (sweep : SweepNo) : Notice :=
  { subject := .zone z, state := .zone v.state, value := .number v.arcHistory.length, sweep, changes := 1 }

/-- A system condition's notice (R31, R34, R132). -/
def conditionNotice (subject : Subject) (raised : Bool) (value : NoticeValue) (sweep : SweepNo) : Notice :=
  { subject, state := if raised then .raised else .released, value, sweep, changes := 1 }

/-- The states whose entry and exit queue a lane notice (R116). -/
def LaneState.noticed (st : LaneState) : Bool := st == .muted || st == .blank || st == .lockout

/-- A lane notice for a change of state from `old`, when R116 asks for one. -/
def laneChangeNotice (l : Nat) (old : LaneState) (v : Lane) : Option Notice :=
  if old ≠ v.state ∧ (old.noticed || v.state.noticed) then some (laneNotice l v) else none

/-! ### Lane changes outside lane handling -/

/-- A lane leaves its state for another outside lane handling: the state entry sweep is that of the most recent
evaluation, the restriking mark goes, the scales are handed over and the notice is queued at once (R98, R92, R116). -/
def State.changeLane (s : State) (l : Nat) (v : Lane) : State :=
  let old := (s.lane l).state
  let v := if old = v.state then v else { v with stateEntrySweep := s.lastEvaluation, restriking := false }
  (s.setLaneScaled l v).queueNotice? (laneChangeNotice l old v)

/-- Step 7 of an evaluation in progress compares lane `l` with the state an event has given it (R116), the event's
zero scales stand over those of lane handling, and step 2 judges the lane from the event's state (R82). -/
def State.noteMuted (s : State) (l : Nat) : State :=
  { s with evaluation := s.evaluation.map (fun e =>
      { e with
        startStates := e.startStates.set l .muted, mutedSince := e.mutedSince.set l true
        movedFrom := e.movedFrom.set l none }) }

/-- A lane in PROBE, RAMP, ON or BLANK (R110). -/
def LaneState.mutable (st : LaneState) : Bool := st == .probe || st == .ramp || st == .on || st == .blank

/-- A probe cut short is owed (R107). -/
def Lane.abandonProbe (v : Lane) : Lane :=
  if v.state = .probe then { v with probeOwed := true, probeRemaining := 0 } else v

/-- A lane as an INHIBIT or LINK_LOSS event leaves it: MUTED with T = A = 0, a probe abandoned and owed (R107, R110). -/
def Lane.muteAtOnce (v : Lane) : Lane := { v.abandonProbe with state := .muted, target := 0, applied := 0 }

/-- The event's effect on lane `l` (R110). -/
def muteLane (l : Nat) (s : State) : State :=
  if (s.lane l).state.mutable then (s.changeLane l (s.lane l).muteAtOnce).noteMuted l else s

/-- INHIBIT or LINK_LOSS joins the mute causes: each lane in PROBE, RAMP, ON or BLANK enters MUTED at once (R110). DESIGN
CHOICE (log entry 35): the notices of the lanes that one event mutes join the queue in ascending lane number. -/
def State.muteLanes (s : State) : State := forEach (List.range laneCount) muteLane s

/-! ### Command places and replies -/

/-- The places of the command queue (R166). -/
def commandPlaces : Nat := 4

/-- The places held: commands that wait, and complete commands whose replies wait (R166). -/
def State.placesHeld (s : State) : Nat := s.commands.length + s.replies.length

/-- The command at the head completes: its reply joins the reply queue and the next command reaches the head (R168). -/
def State.completeHead (s : State) (result : ReplyResult) (data : ReplyData) : State :=
  match s.commands with
  | [] => s
  | c :: rest =>
    { s with commands := rest
             replies := s.replies ++ [{ tag := c.tag, kind := c.payload.getD 0 0, result, data }] }

/-- The set of refused tags that holds one tag (R167). -/
def tagBit (tag : Tag) : BitVec 256 := (1 : BitVec 256) <<< tag.toNat

/-- The record that a first refusal fills (R167). -/
def Refused.first (tag : Tag) (ahead : Nat) : Refused :=
  { firstTag := tag, tags := tagBit tag, count := 1, ahead }

/-- The record after one more refusal (R167). -/
def Refused.add (r : Refused) (tag : Tag) : Refused :=
  { r with tags := r.tags ||| tagBit tag, count := saturatingSucc 65535 r.count }

/-- A COMMAND frame that finds all four places held (R167). -/
def State.refuseCommand (s : State) (tag : Tag) : State :=
  match s.refusal with
  | none => { s with refusal := some (Refused.first tag s.replies.length) }
  | some r => { s with refusal := some (r.add tag) }

/-! ### Reset -/

/-- What a fall of RESET_N leaves of the state (R181): everything in progress is gone and every block will take its
reset values at the release. The pin levels, the held strap sample, the draw counter and the queue stay. -/
def State.cleared (s : State) : State :=
  { State.reset with
    inReset := true
    inhibitLow := s.inhibitLow
    arcLow := s.arcLow
    probePolHigh := s.probePolHigh
    draws := s.draws
    pending := s.pending }

end Sys2Proof.Machine
end

