-- ==== Sys2Proof/Machine/Activation.lean ====
section
/-! DEFINITION. The table store: LOAD and DISCARD (R152 to R154), the validation of ACTIVATE (R155 to R157), its
application, deferral and abandonment (R158, R159), and SITE (R161). -/

namespace Sys2Proof.Machine

/-! ### Loading (R152) -/

/-- What a LOAD of one part does when its index and contents pass: DONE and the write, or RANGE and nothing. -/
def loadEntry (s : State) (count : Nat) (part index : Word) (write : Nat → Option TableSet) :
    State × ReplyResult × ReplyData :=
  if index.toNat < count then
    match write index.toNat with
    | some t => ({ s with pendingSet := t }, .done, .loaded part index)
    | none => (s, .range, .empty)
  else (s, .range, .empty)

/-- LOAD of a Point Table entry (R38). -/
def takeLoadPoint (index definedWord : Word) (fields : List Word) (s : State) : State × ReplyResult × ReplyData :=
  loadEntry s pointCount 0 index fun i =>
    (parseEntry parsePoint definedWord fields).map fun e =>
      { s.pendingSet with points := s.pendingSet.points.set i e }

/-- LOAD of a Head Table entry (R153). -/
def takeLoadHead (index definedWord : Word) (fields : List Word) (s : State) : State × ReplyResult × ReplyData :=
  loadEntry s headCount 1 index fun i =>
    (parseEntry parseHead definedWord fields).map fun e =>
      { s.pendingSet with heads := s.pendingSet.heads.set i e }

/-- LOAD of a curve (R79). -/
def takeLoadCurve (index definedWord : Word) (fields : List Word) (s : State) : State × ReplyResult × ReplyData :=
  loadEntry s curveCount 2 index fun i =>
    (parseEntry parseCurve definedWord fields).map fun e =>
      { s.pendingSet with curves := s.pendingSet.curves.set i e }

/-- LOAD of a Condition Table entry (R54). -/
def takeLoadCondition (index definedWord : Word) (fields : List Word) (s : State) : State × ReplyResult × ReplyData :=
  loadEntry s rowCount 3 index fun i =>
    (parseEntry parseRow definedWord fields).map fun e =>
      { s.pendingSet with rows := s.pendingSet.rows.set i e }

/-- LOAD of a zone plan entry (R120). -/
def takeLoadZonePlan (index definedWord : Word) (fields : List Word) (s : State) : State × ReplyResult × ReplyData :=
  loadEntry s laneCount 4 index fun i =>
    (parseEntry parseZone definedWord fields).map fun e =>
      { s.pendingSet with zonePlan := s.pendingSet.zonePlan.set i e }

/-- LOAD of a lane plan entry (R95). -/
def takeLoadLanePlan (index definedWord : Word) (fields : List Word) (s : State) : State × ReplyResult × ReplyData :=
  loadEntry s laneCount 5 index fun i =>
    (parseEntry parseLanePlan definedWord fields).map fun e =>
      { s.pendingSet with lanePlan := s.pendingSet.lanePlan.set i e }

/-- LOAD of the Protection Parameters, which cannot be written undefined (R153). -/
def takeLoadParameters (index definedWord : Word) (fields : List Word) (s : State) : State × ReplyResult × ReplyData :=
  loadEntry s 1 6 index fun _ =>
    match parseEntry parseParameters definedWord fields with
    | some (some p) => some { s.pendingSet with parameters := p }
    | _ => none

/-- A zone entry as DISCARD copies it: one resolved from the default becomes undefined (R154). -/
def undoDefault : Option ZoneEntry → Option ZoneEntry
  | some e => if e.fromDefault then none else some e
  | none => none

/-- DISCARD (R154). -/
def takeDiscard (s : State) : State × ReplyResult × ReplyData :=
  ({ s with pendingSet := { s.activeSet with zonePlan := s.activeSet.zonePlan.map undoDefault } }, .done, .empty)

/-! ### SITE (R161) -/

/-- The scale fields of a lane at or above L are 0 (R93). -/
def Lane.unscaled (v : Lane) : Lane :=
  { v with ceiling := 0, demand := 0, grant := 0, budgetCeiling := 0, target := 0, applied := 0 }

/-- Lanes at or above L hold C, D, g, C′, T, A and the multiplier at 0 (R93). -/
def State.zeroBeyond (s : State) : State :=
  forEach ((List.range laneCount).filter (s.siteRecord.lanes ≤ ·)) (fun l t => t.setLaneScaled l (t.lane l).unscaled) s

/-- SITE: PHASE_LOCKED in SERVICE, RANGE for a bad field, otherwise the record is replaced whole. -/
def takeSite (fields : List Word) (s : State) : State × ReplyResult × ReplyData :=
  if s.phase = .service then (s, .phaseLocked, .empty)
  else
    match parseSite fields with
    | some r => ({ s with siteRecord := r }.zeroBeyond, .done, .siteInForce r)
    | none => (s, .range, .empty)

/-! ### Validation (R156) -/

/-- The pending set with each lane below L given its default zone where its entry is undefined (R120). -/
def resolveZones (r : SiteRecord) (t : TableSet) : TableSet :=
  { t with zonePlan := t.zonePlan.zipIdx.map fun (e, l) =>
      match e with
      | some z => some z
      | none => if l < r.lanes then some { zone := defaultZone r.lanes r.zones l, fromDefault := true } else none }

/-- A scope names no lane at or above L and no zone at or above Z. -/
def Scope.within (r : SiteRecord) : Scope → Bool
  | .lane l => l < r.lanes
  | .zone z => z < r.zones
  | .site => true

/-- The x values are strictly ascending (R78). -/
def curveAscends : Curve → Bool
  | p :: q :: rest => p.x < q.x && curveAscends (q :: rest)
  | _ => true

/-- A point is defined with the kind and the scope asked for. -/
def TableSet.hasPoint (t : TableSet) (i : Nat) (kind : PointKind) (scope : Scope) : Bool :=
  match t.point i with
  | some e => e.kind == kind && e.scope == scope
  | none => false

/-- Check 1, POINT_HEAD, fails at a point. -/
def failsPointHead (r : SiteRecord) (t : TableSet) (i : Nat) : Bool :=
  match t.point i with
  | some { source := .head position _ _ _ _, .. } => r.heads ≤ position
  | _ => false

/-- Check 2, POINT_SCOPE. -/
def failsPointScope (r : SiteRecord) (t : TableSet) (i : Nat) : Bool :=
  match t.point i with
  | some e => !e.scope.within r
  | none => false

/-- Check 3, RATIO_SOURCE. -/
def failsRatioSource (t : TableSet) (i : Nat) : Bool :=
  match t.point i with
  | some { source := .ratio f g, scope := scope, .. } => !(t.hasPoint f .fwd scope && t.hasPoint g .ref scope)
  | _ => false

/-- Check 4, HEAD_SCOPE; positions at N and above are held as loaded. -/
def failsHeadScope (r : SiteRecord) (t : TableSet) (k : Nat) : Bool :=
  match t.head k with
  | some { arcScope := .zone z, .. } => k < r.heads && r.zones ≤ z
  | _ => false

/-- Check 5, CURVE_ORDER. -/
def failsCurveOrder (t : TableSet) (c : Nat) : Bool :=
  match t.curve c with
  | some curve => !curveAscends curve
  | none => false

/-- A defined row satisfies `p`. -/
def TableSet.rowHas (t : TableSet) (i : Nat) (p : RowEntry → Bool) : Bool :=
  match t.row i with
  | some d => p d
  | none => false

/-- Check 6, ROW_SOURCE. -/
def failsRowSource (t : TableSet) (i : Nat) : Bool := t.rowHas i fun d => (t.point d.source).isNone

/-- Check 7, ROW_SCOPE. -/
def failsRowScope (r : SiteRecord) (t : TableSet) (i : Nat) : Bool := t.rowHas i fun d => !d.scope.within r

/-- The curve a CEILING row names, when its ceiling is a curve. -/
def RowEntry.curveIndex (d : RowEntry) : Option Nat :=
  match d.action, d.ceiling with
  | .ceiling, some (.curve c) => some c
  | _, _ => none

/-- Check 8, ROW_CURVE. -/
def failsRowCurve (t : TableSet) (i : Nat) : Bool :=
  t.rowHas i fun d => match d.curveIndex with
    | some c => (t.curve c).isNone
    | none => false

/-- A row's source is a RATIO point. -/
def TableSet.onRatio (t : TableSet) (d : RowEntry) : Bool := (t.point d.source).any (·.kind == .ratio)

/-- Check 9, MUTE_LATCH. -/
def failsMuteLatch (t : TableSet) (i : Nat) : Bool :=
  t.rowHas i fun d => d.action == .mute && t.onRatio d && d.latch == .self

/-- Check 10, ARC_LATCH. -/
def failsArcLatch (t : TableSet) (i : Nat) : Bool := t.rowHas i fun d => d.action == .arc && d.latch == .latch

/-- Check 11, CURVE_FLOOR: the least y is below the ratio floor. -/
def failsCurveFloor (r : SiteRecord) (t : TableSet) (i : Nat) : Bool :=
  t.rowHas i fun d => t.onRatio d && match d.curveIndex.bind t.curve with
    | some curve => curve.any fun p => p.y < r.ratioFloor
    | none => false

/-- Check 12, ZONE_LANE. -/
def failsZoneLane (r : SiteRecord) (t : TableSet) (l : Nat) : Bool :=
  l < r.lanes && (t.zoneOf l).any (r.zones ≤ ·)

/-- Check 13, ZONE_EMPTY. -/
def failsZoneEmpty (r : SiteRecord) (t : TableSet) (z : Nat) : Bool := z < r.zones && (t.members r.lanes z).isEmpty

/-- Check 14, LANE_PLAN. -/
def failsLanePlan (r : SiteRecord) (t : TableSet) (l : Nat) : Bool := l < r.lanes && (t.plan l).isNone

/-- Check 15, LANE_RATIO. -/
def failsLaneRatio (r : SiteRecord) (t : TableSet) (l : Nat) : Bool :=
  l < r.lanes && match (t.plan l).bind (·.ratioPoint) with
    | some i => !t.hasPoint i .ratio (.lane l)
    | none => false

/-- Check 16, PROBE_FLOOR; its item is 0. -/
def failsProbeFloor (r : SiteRecord) (t : TableSet) (_ : Nat) : Bool := t.parameters.probeLevel < r.ratioFloor

/-- Check 17, BUDGET_CURVE; its item is the budget curve. -/
def failsBudgetCurve (t : TableSet) (c : Nat) : Bool :=
  t.parameters.budgetPoint.isSome && c == t.parameters.budgetCurve && (t.curve c).isNone

/-- The first item below `count` at which a check fails, with the check's code. -/
def firstFailure (code count : Nat) (fails : Nat → Bool) : Option (Nat × Nat) :=
  ((List.range count).find? fails).map fun item => (code, item)

/-- The first failure of the validation (R156), as its code and item index, or none for a set that passes. -/
def validate (r : SiteRecord) (t : TableSet) : Option (Nat × Nat) :=
  [firstFailure 1 pointCount (failsPointHead r t),
   firstFailure 2 pointCount (failsPointScope r t),
   firstFailure 3 pointCount (failsRatioSource t),
   firstFailure 4 headCount (failsHeadScope r t),
   firstFailure 5 curveCount (failsCurveOrder t),
   firstFailure 6 rowCount (failsRowSource t),
   firstFailure 7 rowCount (failsRowScope r t),
   firstFailure 8 rowCount (failsRowCurve t),
   firstFailure 9 rowCount (failsMuteLatch t),
   firstFailure 10 rowCount (failsArcLatch t),
   firstFailure 11 rowCount (failsCurveFloor r t),
   firstFailure 12 laneCount (failsZoneLane r t),
   firstFailure 13 zoneCount (failsZoneEmpty r t),
   firstFailure 14 laneCount (failsLanePlan r t),
   firstFailure 15 laneCount (failsLaneRatio r t),
   firstFailure 16 1 (failsProbeFloor r t),
   firstFailure 17 curveCount (failsBudgetCurve t)].findSome? id

/-- ACTIVATE is taken (R155, R157): refused with STATE, failed with INCONSISTENT, or valid, in which case it has no
reply yet and stays at the head of the command queue. -/
def takeActivate (s : State) : State × Option (ReplyResult × ReplyData) :=
  if s.latchedRows ≠ [] ∨ s.lockedLanes ≠ [] then
    (s, some (.state, .activationRefused s.latchedRows.length s.lockedLanes.length))
  else
    let t := resolveZones s.siteRecord s.pendingSet
    match validate s.siteRecord t with
    | some (code, item) => (s, some (.inconsistent, .inconsistent code item))
    | none => ({ s with waiting := some { tables := t, deferrals := 0 } }, none)

/-! ### Deferral and abandonment (R158) -/

/-- Any zone below Z is in BLANK. -/
def State.anyBlank (s : State) : Bool := (List.range s.siteRecord.zones).any fun z => (s.zone z).state == .blank

/-- The state that blocks an application: the first of BLANK, LATCHED and LOCKOUT that holds. -/
def State.blocking (s : State) : Option Blocking :=
  if s.anyBlank then some .blank
  else if s.latchedRows ≠ [] then some .latched
  else if s.lockedLanes ≠ [] then some .lockout
  else none

/-- The deferrals at which an activation is abandoned. -/
def deferralLimit : Nat := 1024

/-- The activation is abandoned: ACTIVATE completes with STATE and the validated set is dropped. -/
def State.abandonActivation (s : State) (b : Blocking) : State :=
  { s with waiting := none }.completeHead .state (.activationAbandoned b)

/-- A blocked application is deferred, or abandoned when the deferral brings the count to 1024. -/
def State.deferActivation (s : State) (w : WaitingActivation) (b : Blocking) : State :=
  if deferralLimit ≤ w.deferrals + 1 then s.abandonActivation b
  else { s with waiting := some { w with deferrals := w.deferrals + 1 } }

/-! ### Application (R159) -/

/-- Point records under the new Point Table (R49). -/
def carryPoints (old new : TableSet) (records : List (Option PointRecord)) : List (Option PointRecord) :=
  records.zipIdx.map fun (p, i) =>
    if old.point i = new.point i then p
    else if (new.point i).isSome then some PointRecord.initial
    else none

/-- A row is carried when its source, scope and action are the same (R75). -/
def RowEntry.carriedBy (d d' : RowEntry) : Bool := d.source == d'.source && d.scope == d'.scope && d.action == d'.action

/-- The ceiling in force of a carried row: a fixed ceiling takes its new value at once, a curve ceiling is kept (R66, R75). -/
def carriedCeiling (d : RowEntry) (q : RowRuntime) : Option Nat :=
  match d.ceiling with
  | some (.fixed v) => if q.effective then some v else none
  | _ => q.ceilingInForce

/-- A row's runtime record under the new Condition Table (R75). -/
def carryRow (old new : Option RowEntry) (q : Option RowRuntime) : Option RowRuntime :=
  match old, new, q with
  | some d, some d', some q =>
    if d.carriedBy d' then some { q with ceilingInForce := carriedCeiling d' q } else some RowRuntime.initial
  | _, some _, _ => some RowRuntime.initial
  | _, none, _ => none

/-- The release notice of a row that an application restarts or drops (R70, R75). -/
def carryNotice (r : Nat) (sweep : SweepNo) (old new : Option RowEntry) (q : Option RowRuntime) : Option Notice :=
  match old, q with
  | some d, some q =>
    if d.report = .alert ∧ (q.phase = .asserted ∨ q.phase = .clearing) ∧ ¬ (new.any d.carriedBy) then
      some (rowNotice r .idle false none sweep)
    else none
  | _, _ => none

/-- The condition engine's part of an application: the runtimes, then the release notices in ascending row index. -/
def State.carryRows (s : State) (new : TableSet) (sweep : SweepNo) (meanwhile : Meanwhile := undisturbed) : State :=
  let t := { s with rowRuntimes := s.rowRuntimes.zipIdx.map fun (q, r) => carryRow (s.activeSet.row r) (new.row r) q }
  t.queueEach (List.range rowCount) (fun r => carryNotice r sweep (s.activeSet.row r) (new.row r) (s.rowRuntime r))
    fun r => meanwhile (.releasedRow r)

/-- Any lane below L has a different resolved zone (R136). -/
def zonePlanChanged (lanes : Nat) (old new : TableSet) : Bool :=
  (List.range lanes).any fun l => old.zoneOf l != new.zoneOf l

/-- An arc history under a lowered arc limit loses its oldest entries until its length is the limit less 1 (R136). -/
def trimHistory (limit : Nat) (history : List SweepNo) : List SweepNo :=
  if limit ≤ history.length then history.drop (history.length - (limit - 1)) else history

/-- Arc histories under the new zone plan and arc limit (R136). -/
def carryZone (lanes : Nat) (old new : TableSet) (v : Zone) : Zone :=
  if zonePlanChanged lanes old new then { v with arcHistory := [] }
  else if new.parameters.arcLimit < old.parameters.arcLimit then
    { v with arcHistory := trimHistory new.parameters.arcLimit v.arcHistory }
  else v

/-- The Head Table entries that an application changes (R30). -/
def headChanged (old new : TableSet) (k : Nat) : Bool := old.head k != new.head k

/-- An application makes the validated set active and brings each block's runtime into line (R159). -/
def State.applyActivation (s : State) (w : WaitingActivation) (sweep : SweepNo)
    (meanwhile : Meanwhile := undisturbed) : State :=
  let old := s.activeSet
  let new := w.tables
  let s := s.carryRows new sweep meanwhile
  { s with
    pointRecords := carryPoints old new s.pointRecords
    zones := s.zones.map (carryZone s.siteRecord.lanes old new)
    activeSet := new
    phase := .service
    waiting := none }.completeHead .done (.activated sweep w.deferrals)

/-- The second stage of an evaluation (R158). The second component says which head positions are re-marked stale. -/
def activationStage (sweep : SweepNo) (s : State) (meanwhile : Meanwhile := undisturbed) : State × (Nat → Bool) :=
  match s.waiting with
  | none => (s, fun _ => false)
  | some w =>
    match s.blocking with
    | some b => (s.deferActivation w b, fun _ => false)
    | none => (s.applyActivation w sweep meanwhile, headChanged s.activeSet w.tables)

end Sys2Proof.Machine
end

