-- ==== Sys2Proof/Machine/LaneEvents.lean ====
section
/-! DEFINITION. The lane controller outside lane handling: the probe policy, the LANE command's checks and effects
(R96, R97, R101 to R103), and the lane side of CLEAR (R115). -/

namespace Sys2Proof.Machine

/-! ### Probe policy (R102) -/

/-- The policy in force: FOLLOW_STRAP gives ALWAYS for a low PROBE_POL sample and AFTER_FAULT for a high one. -/
def policyInForce (probePolHigh : Bool) : ProbePolicy → ProbePolicy
  | .followStrap => if probePolHigh then .afterFault else .always
  | .always => .always
  | .afterFault => .afterFault

/-- The policy of lane `l` read from the active lane plan at the moment of the decision. -/
def State.lanePolicy (s : State) (l : Nat) : ProbePolicy :=
  policyInForce s.probePolHigh (((s.activeSet.plan l).map (·.probePolicy)).getD .followStrap)

/-- The policy calls for a probe at a turn-on. -/
def State.probesAtTurnOn (s : State) (l : Nat) : Bool :=
  s.lanePolicy l == .always || !(s.lane l).firstTurnOnDone

/-- The policy calls for a probe at an exit from MUTED. -/
def State.probesAtMuteExit (s : State) (l : Nat) : Bool :=
  s.lanePolicy l == .always || (s.lane l).muteInvolvedLatch

/-- Lane `l`'s zone, by the active zone plan, has a state that satisfies `p`. -/
def State.zoneIs (s : State) (l : Nat) (p : ZoneState → Bool) : Bool :=
  match s.activeSet.zoneOf l with
  | some z => p (s.zone z).state
  | none => false

/-! ### Turning on and off -/

/-- A lane as an entry into PROBE by an event leaves it (R104): probe remaining the probe length, no probe owed,
T = A = 0 until the next evaluation. -/
def Lane.enterProbe (v : Lane) (probeLength : Nat) : Lane :=
  { v with state := .probe, probeRemaining := probeLength, probeOwed := false, target := 0, applied := 0 }

/-- A lane as a turn-on leaves it, into PROBE or RAMP (R101). -/
def Lane.turnedOn (v : Lane) (probe : Bool) (probeLength : Nat) : Lane :=
  let v := { v with
    state := .ramp, target := 0, applied := 0, retriesUsed := 0, probeOwed := false
    muteInvolvedLatch := false, firstTurnOnDone := true }
  if probe then v.enterProbe probeLength else v

/-- A lane as LANE off leaves it when its zone is not in LOCKOUT (R103); the lockout cause is kept. A lane whose zone is in
LOCKOUT keeps its retries used here (DESIGN CHOICE, log entry 32). -/
def Lane.turnedOff (v : Lane) : Lane :=
  { v with
    state := .off, target := 0, applied := 0, probeRemaining := 0, retriesUsed := 0, probeOwed := false
    muteInvolvedLatch := false }

/-- A request for on that passed the checks (R101). -/
def State.requestOn (s : State) (l : Nat) : State :=
  let v := { s.lane l with onRequest := true }
  if v.state = .off then
    if v.lockoutCause = .probe then s.changeLane l { v with state := .lockout }
    else s.changeLane l (v.turnedOn (s.probesAtTurnOn l) s.activeSet.parameters.probeLength)
  else s.setLane l v

/-- A request for off that passed the checks (R103). -/
def State.requestOff (s : State) (l : Nat) : State :=
  let v := { s.lane l with onRequest := false }
  if s.zoneIs l (· == .lockout) then s.setLane l v else s.changeLane l v.turnedOff

/-- The greatest setpoint (R96). -/
def greatestSetpoint : Nat := 1250

/-- The mode and setpoint requests of a LANE command, written to the operating fields (R97). -/
def Lane.operate (v : Lane) (modeWord setpointGiven setpoint : Nat) : Lane :=
  { v with
    mode := if modeWord = 1 then .full else if modeWord = 2 then .reduced else v.mode
    setpoint := if setpointGiven = 1 then min setpoint greatestSetpoint else v.setpoint }

/-- The on or off request of a LANE command, when it carries one. -/
def State.requestOnOff (s : State) (l onWord : Nat) : State :=
  if onWord = 1 then s.requestOn l else if onWord = 2 then s.requestOff l else s

/-- A LANE command is taken (R97): the three checks in order, then its requests together. -/
def takeLane (lane onWord modeWord setpointGiven setpoint : Nat) (s : State) : State × ReplyResult × ReplyData :=
  if 7 < lane ∨ 2 < onWord ∨ 2 < modeWord ∨ 1 < setpointGiven then (s, .range, .empty)
  else if s.siteRecord.lanes ≤ lane then (s, .range, .empty)
  else if onWord = 1 ∧ s.phase = .setup then (s, .state, .empty)
  else
    let t := (s.setLane lane ((s.lane lane).operate modeWord setpointGiven setpoint)).requestOnOff lane onWord
    let v := t.lane lane
    (t, .done, .laneInForce v.state v.onRequest v.mode v.setpoint)

/-! ### The lane side of CLEAR (R115) -/

/-- A lane as a CLEAR takes it out of LOCKOUT: into PROBE when its on request is set, otherwise into OFF. An entry into OFF
keeps retries used until the next evaluation settles the lane, which no rule states (DESIGN CHOICE, log entry 32). -/
def Lane.unlock (v : Lane) (probeLength : Nat) : Lane :=
  let v := { v with lockoutCause := .none }
  if v.onRequest then { v.enterProbe probeLength with retriesUsed := 0 } else { v with state := .off }

/-- What a CLEAR has found so far (R171). -/
structure ClearTally where
  stayedRows : List Nat
  stayedLanes : List Nat
  unlatched : Nat
  returned : Nat
  unlocked : Nat
  deriving DecidableEq, Repr

/-- Nothing found yet. -/
def ClearTally.zero : ClearTally := { stayedRows := [], stayedLanes := [], unlatched := 0, returned := 0, unlocked := 0 }

/-- A lane leaves LOCKOUT by a CLEAR: it leaves the alert set at once and queues its notice. -/
def State.unlockLane (s : State) (l : Nat) : State :=
  s.changeLane l ((s.lane l).unlock s.activeSet.parameters.probeLength)

/-- A lane named by a CLEAR (R115); a lane at or above L counts as cleared (R171). -/
def clearLane (l : Nat) (p : State × ClearTally) : State × ClearTally :=
  let v := p.1.lane l
  if p.1.siteRecord.lanes ≤ l then p
  else if v.state = .lockout ∧ v.lockoutCause = .probe then
    (p.1.changeLane l { v.enterProbe p.1.activeSet.parameters.probeLength with lockoutCause := .none, retriesUsed := 0 },
      { p.2 with unlocked := p.2.unlocked + 1 })
  else if v.state = .lockout then (p.1, { p.2 with stayedLanes := p.2.stayedLanes ++ [l] })
  else if v.state = .off ∧ v.lockoutCause = .probe then (p.1.setLane l { v with lockoutCause := .none }, p.2)
  else p

/-- Each member lane of a cleared zone that is in LOCKOUT with cause ARC leaves LOCKOUT (R135). -/
def clearZoneLane (l : Nat) (p : State × ClearTally) : State × ClearTally :=
  let v := p.1.lane l
  if v.state = .lockout ∧ v.lockoutCause = .arc then
    (p.1.unlockLane l, { p.2 with unlocked := p.2.unlocked + 1 })
  else p

/-- A zone named by a CLEAR (R135). -/
def clearZone (z : Nat) (p : State × ClearTally) : State × ClearTally :=
  let v := p.1.zone z
  if p.1.siteRecord.zones ≤ z then p
  else if v.state = .lockout then
    let cleared : Zone := { state := .normal, blankRemaining := 0, arcHistory := [] }
    let s := (p.1.setZone z cleared).queueNotice (zoneNotice z cleared p.1.lastEvaluation)
    (s.activeSet.members s.siteRecord.lanes z).foldl (fun q l => clearZoneLane l q) (s, p.2)
  else (p.1.setZone z { v with arcHistory := [] }, p.2)

/-! ### The row side of CLEAR (R73) -/

/-- Row `r` has a RATIO source in state HELD, and the point it is (R50). -/
def State.heldRatioSource (s : State) (r : Nat) : Option Nat :=
  match s.activeSet.row r with
  | some d =>
    match s.activeSet.point d.source, s.pointRecord d.source with
    | some e, some p => if e.kind = .ratio ∧ p.state = .held then some d.source else none
    | _, _ => none
  | none => none

/-- A row as a CLEAR that ends its effect leaves it: IDLE, not latched, no ceiling in force. -/
def RowRuntime.ended (q : RowRuntime) : RowRuntime :=
  { q with phase := .idle, progress := 0, latched := false, ceilingInForce := none }

/-- A row named by a CLEAR (R73). `atTaking` is the state when the CLEAR was taken, against which a HELD source is
judged. -/
def clearRow (atTaking : State) (seenOption : Bool) (r : Nat) (p : State × ClearTally) : State × ClearTally :=
  match p.1.activeSet.row r, p.1.rowRuntime r with
  | some d, some q =>
    let q := { q with extreme := none, seen := if seenOption then false else q.seen }
    let s := p.1.setRow r q
    match q.phase with
    | .idle =>
      if q.latched then (s.setRow r q.ended, { p.2 with unlatched := p.2.unlatched + 1 }) else (s, p.2)
    | .pending => (s, { p.2 with stayedRows := p.2.stayedRows ++ [r] })
    | _ =>
      match atTaking.heldRatioSource r with
      | some i =>
        let s := (s.setRow r q.ended).setPoint i PointRecord.initial
        let s := if d.report = .alert then s.queueNotice (rowNotice r .idle false none s.lastEvaluation) else s
        (s, { p.2 with unlatched := p.2.unlatched + q.latched.toNat, returned := p.2.returned + 1 })
      | none => (s, { p.2 with stayedRows := p.2.stayedRows ++ [r] })
  | _, _ => p

/-- The indices below 16 × the number of words that a set of words names (section 11.3). -/
def namedBits (ws : List Word) : List Nat :=
  (List.range (16 * ws.length)).filter fun k => (ws.getD (k / 16) 0).getLsbD (k % 16)

/-- A CLEAR is taken (R171): refused whole when it names an index that does not exist, otherwise rows, then zones, then
lanes. -/
def takeClear (seenOption : Word) (rows : List Word) (lanes zones : Word) (s : State) :
    State × ReplyResult × ReplyData :=
  let rowSet := namedBits rows
  let laneSet := namedBits [lanes]
  let zoneSet := namedBits [zones]
  if 1 < seenOption.toNat ∨ rowSet.any (rowCount ≤ ·) ∨ laneSet.any (laneCount ≤ ·) ∨ zoneSet.any (zoneCount ≤ ·) then
    (s, .range, .empty)
  else
    let p := rowSet.foldl (fun q r => clearRow s (seenOption == 1) r q) (s, ClearTally.zero)
    let p := zoneSet.foldl (fun q z => clearZone z q) p
    let p := laneSet.foldl (fun q l => clearLane l q) p
    let tally := p.2
    (p.1, if tally.stayedRows.isEmpty && tally.stayedLanes.isEmpty then .done else .partialDone,
      .cleared tally.stayedRows tally.stayedLanes tally.unlatched tally.returned tally.unlocked)

end Sys2Proof.Machine
end

