-- ==== Sys2Proof/Machine/Commands.lean ====
section
/-! DEFINITION. Taking a command: what each READ returns (R170), RESTART (R172), and how commands reach the head of the
command queue, are taken and completed (R166 to R169). -/

namespace Sys2Proof.Machine

/-! ### READ (R170): the item as it stands, or RANGE -/

/-- A READ of an indexed item: RANGE for an index the item does not have. -/
def readIndexed (count : Nat) (index : Word) (item : Nat → ReplyData) (s : State) : State × ReplyResult × ReplyData :=
  if index.toNat < count then (s, .done, item index.toNat) else (s, .range, .empty)

/-- A lane record as READ returns it: a lane at or above L is OFF with the fields of R93 at 0 (R119; log entry 14). -/
def State.laneAsRead (s : State) (l : Nat) : Lane :=
  if l < s.siteRecord.lanes then s.lane l else { (s.lane l).unscaled with state := .off }

/-- READ of a lane (R119). -/
def takeReadLane (index : Word) (s : State) : State × ReplyResult × ReplyData :=
  readIndexed laneCount index
    (fun l => .lane (s.activeSet.plan l) (s.laneAsRead l) (s.muteCauses l)) s

/-- READ of a zone (R138): one at or above Z is NORMAL with no members and an empty history. -/
def takeReadZone (index : Word) (s : State) : State × ReplyResult × ReplyData :=
  readIndexed zoneCount index (fun z =>
    if z < s.siteRecord.zones then .zone (s.zone z) (s.activeSet.members s.siteRecord.lanes z)
    else .zone Zone.initial []) s

/-- READ of a row (R77). -/
def takeReadRow (index : Word) (s : State) : State × ReplyResult × ReplyData :=
  readIndexed rowCount index (fun r =>
    match s.activeSet.row r, s.rowRuntime r with
    | some d, some q => .row (some (d, q)) q.effective
    | _, _ => .row none false) s

/-- READ of a point (R52). -/
def takeReadPoint (index : Word) (s : State) : State × ReplyResult × ReplyData :=
  readIndexed pointCount index (fun i =>
    match s.activeSet.point i with
    | some e => .point (some (e, s.pointOrNone i))
    | none => .point none) s

/-- READ of a curve (R94). -/
def takeReadCurve (index : Word) (s : State) : State × ReplyResult × ReplyData :=
  readIndexed curveCount index (fun c => .curve (s.activeSet.curve c)) s

/-- READ of a head (R165). -/
def takeReadHead (index : Word) (s : State) : State × ReplyResult × ReplyData :=
  readIndexed headCount index
    (fun k => .head (s.activeSet.head k) (s.reportedMode k) (s.staleCount k) (s.isHeadLost k)) s

/-- READ of the site record, with the budget state (R150, R165). -/
def takeReadSiteRecord (s : State) : State × ReplyResult × ReplyData :=
  (s, .done, .siteRecord s.siteRecord s.phase s.activationPending s.budget)

/-- READ of the active parameters (R165). -/
def takeReadParameters (s : State) : State × ReplyResult × ReplyData := (s, .done, .parameters s.activeSet.parameters)

/-- READ of a pending entry, exactly as it was loaded (R165). -/
def takeReadPendingEntry (part index : Word) (s : State) : State × ReplyResult × ReplyData :=
  let t := s.pendingSet
  match part.toNat with
  | 0 => readIndexed pointCount index (fun i => .pendingEntry (.point (t.point i))) s
  | 1 => readIndexed headCount index (fun i => .pendingEntry (.head (t.head i))) s
  | 2 => readIndexed curveCount index (fun i => .pendingEntry (.curve (t.curve i))) s
  | 3 => readIndexed rowCount index (fun i => .pendingEntry (.row (t.row i))) s
  | 4 => readIndexed laneCount index (fun i => .pendingEntry (.zone (t.zoneEntry i))) s
  | 5 => readIndexed laneCount index (fun i => .pendingEntry (.lane (t.plan i))) s
  | 6 => readIndexed 1 index (fun _ => .pendingEntry (.parameters t.parameters)) s
  | _ => (s, .range, .empty)

/-- READ of the link statistics (R14). -/
def takeReadLinkStatistics (s : State) : State × ReplyResult × ReplyData := (s, .done, .linkStatistics s.linkStatistics)

/-- READ of the sweep statistics (R35). -/
def takeReadSweepStatistics (s : State) : State × ReplyResult × ReplyData :=
  (s, .done, .sweepStatistics s.sweepStatistics)

/-- READ of the alert set, the one READ that changes state (R170): it clears the notices-dropped flag and the dropped
count after copying both. -/
def takeReadAlertSet (s : State) : State × ReplyResult × ReplyData :=
  ({ s with noticesDropped := false, droppedCount := 0 }, .done,
    .alertSet s.alertSet s.noticesDropped s.droppedCount s.notices.length)

/-- READ by item code (section 11.3). -/
def takeRead (item index part : Word) (s : State) : State × ReplyResult × ReplyData :=
  match item.toNat with
  | 0 => takeReadLane index s
  | 1 => takeReadZone index s
  | 2 => takeReadRow index s
  | 3 => takeReadPoint index s
  | 4 => takeReadCurve index s
  | 5 => takeReadHead index s
  | 6 => takeReadSiteRecord s
  | 7 => takeReadParameters s
  | 8 => takeReadPendingEntry part index s
  | 9 => takeReadLinkStatistics s
  | 10 => takeReadSweepStatistics s
  | 11 => takeReadAlertSet s
  | _ => (s, .range, .empty)

/-- LOAD by part code (R152, section 11.3). -/
def takeLoad (part index definedWord : Word) (fields : List Word) (s : State) : State × ReplyResult × ReplyData :=
  match part.toNat with
  | 0 => takeLoadPoint index definedWord fields s
  | 1 => takeLoadHead index definedWord fields s
  | 2 => takeLoadCurve index definedWord fields s
  | 3 => takeLoadCondition index definedWord fields s
  | 4 => takeLoadZonePlan index definedWord fields s
  | 5 => takeLoadLanePlan index definedWord fields s
  | 6 => takeLoadParameters index definedWord fields s
  | _ => (s, .range, .empty)

/-! ### RESTART (R172) -/

/-- A lane record after RESTART (R118): the mode and the setpoint are kept. -/
def Lane.restarted (v : Lane) (lastEvaluation : SweepNo) : Lane :=
  { Lane.initial with mode := v.mode, setpoint := v.setpoint, stateEntrySweep := lastEvaluation }

/-- The drive path and the sense controller after RESTART (R16, R37). -/
def State.restartPaths (s : State) : State :=
  { s with
    multipliers := List.replicate laneCount 0
    forceInhibit := s.inhibitLow
    inFlight := none
    consecutiveFailures := 0
    staleCounts := List.replicate headCount 0
    senseBlind := false
    headLost := List.replicate headCount false
    blindMute := false }

/-- The points, rows, zones, lanes and budget after RESTART (R51, R76, R93, R118, R137, R149). -/
def State.restartProtection (s : State) : State :=
  { s with
    pointRecords := s.pointRecords.map fun p => p.map fun _ => PointRecord.initial
    rowRuntimes := s.rowRuntimes.map fun q => q.map fun _ => RowRuntime.initial
    zones := List.replicate zoneCount Zone.initial
    lanes := s.lanes.map fun v => v.restarted s.lastEvaluation
    budget := Budget.initial }

/-- Management and reporting after RESTART (R172, R178). -/
def State.restartReports (s : State) : State :=
  { s with notices := [], noticesDropped := false, droppedCount := 0, snapshotCount := 0, snapshot := none }

/-- RESTART is taken: every block takes the values its chapter gives, at one event. -/
def takeRestart (s : State) : State × ReplyResult × ReplyData :=
  (s.restartPaths.restartProtection.restartReports, .done, .restarted s.lastEvaluation)

/-! ### Taking commands (R168) -/

/-- The effect of a command that is taken, with its result and data; none for an ACTIVATE that waits. -/
def takeCommand (c : Command) (s : State) : State × Option (ReplyResult × ReplyData) :=
  let whole := fun (p : State × ReplyResult × ReplyData) => (p.1, some (p.2.1, p.2.2))
  match c with
  | .load part index definedWord fields => whole (takeLoad part index definedWord fields s)
  | .discard => whole (takeDiscard s)
  | .activate => takeActivate s
  | .site fields => whole (takeSite fields s)
  | .lane lane onWord modeWord given setpoint =>
    whole (takeLane lane.toNat onWord.toNat modeWord.toNat given.toNat setpoint.toNat s)
  | .clear seenOption r0 r1 r2 r3 lanes zones => whole (takeClear seenOption [r0, r1, r2, r3] lanes zones s)
  | .read item index part => whole (takeRead item index part s)
  | .restart => whole (takeRestart s)
  | .unknown => whole (s, .unknown, .empty)

/-- The command at the head cannot be taken now: an evaluation is in progress, an ACTIVATE waits at the head, or the part
is in reset (R168, R157, R181). -/
def State.holdsCommands (s : State) : Bool := s.evaluating || s.activationPending || s.inReset

/-- Takes commands from the head until none is left, one waits, or `fuel` commands have been taken (R168). -/
def State.takeCommands : Nat → State → State
  | 0, s => s
  | fuel + 1, s =>
    if s.holdsCommands then s
    else
      match s.commands with
      | [] => s
      | c :: _ =>
        match takeCommand (decodeCommand c.payload) s with
        | (s', none) => s'
        | (s', some (result, data)) => (s'.completeHead result data).takeCommands fuel

/-- Takes every command that can be taken. -/
def State.drainCommands (s : State) : State := s.takeCommands s.commands.length

/-- A command arrives at the command queue (R166): kept at the tail when it finds a place free, and taken when it reaches
the head; refused when all four places are held (R167). -/
def State.submit (s : State) (tag : Tag) (payload : List Word) : State :=
  if s.placesHeld < commandPlaces then
    State.drainCommands { s with commands := s.commands ++ [QueuedCommand.mk tag payload] }
  else s.refuseCommand tag

end Sys2Proof.Machine
end

