-- ==== Sys2Proof/Config.lean ====
section
/-! DEFINITION. What the spec leaves open as a value: the free values of the model, opaque so that no proof can see
them. -/

namespace Sys2Proof

/-- FREE VALUE (log entry 1). The reduced level of a lane whose active lane plan entry is undefined, which R83 names
for a lane in REDUCED mode and no rule states (during SETUP the active set is empty). The first argument is the
state's draw counter, the second the lane; the user clamps it to the field's range 100..1000 (R95). -/
opaque Config.freeReducedLevel : Nat → Nat → Nat

/-- FREE VALUE (log entry 2). The payload words of a REPLY frame from a list on whose data are longer than the 62 words
a payload holds beyond its kind and result (the mute-cause list of R119 can be): no rule states which words are then
sent from the list's count word on. The first argument is the state's draw counter, the second the place among the data
words. -/
opaque Config.freeReplyWord : Nat → Nat → BitVec 16

end Sys2Proof
end

