-- ==== Sys2Proof/Machine/Layout.lean ====
section
/-! DEFINITION. Frame and record layouts (chapter 11): the check, the forward frames as received, and every frame the
7210 sends, word by word. -/

namespace Sys2Proof.Machine

/-! ### The check (R179) -/

/-- One bit into the check register: a shift toward bit 15, then an exclusive OR with 1021h when the bit shifted out
differs from the data bit. -/
def crcBit (register : Word) (data : Bool) : Word :=
  if register.msb != data then (register <<< 1) ^^^ 0x1021#16 else register <<< 1

/-- One covered word into the check register, most significant bit first. -/
def crcWord (register w : Word) : Word := (List.range 16).foldl (fun r i => crcBit r (w.getMsbD i)) register

/-- The check of the covered words; the register starts at FFFFh. -/
def crc (words : List Word) : Word := words.foldl crcWord 0xFFFF#16

/-! ### Numbers as words -/

/-- A number as one word. -/
def word (n : Nat) : Word := BitVec.ofNat 16 n
/-- A value wider than 16 bits: two words, high word first (chapter 11). -/
def words32 (n : Nat) : List Word := [word (n / 65536), word n]
/-- A flag: 1 set, 0 clear. -/
def flag (b : Bool) : Word := word b.toNat
/-- A word, or all ones for none (chapter 11). -/
def wordOrNone : Option Nat → Word
  | some n => word n
  | none => 0xFFFF#16
/-- Two words, or all ones for none (chapter 11). -/
def words32OrNone : Option Nat → List Word
  | some n => words32 n
  | none => [0xFFFF#16, 0xFFFF#16]

/-- A set of indices below 16 × `count` as `count` words, bit k of word floor(k / 16) naming index k (section 11.3). -/
def setWords (count : Nat) (members : List Nat) : List Word :=
  (List.range count).map fun w => word (bitsOf ((List.range 16).map fun b => members.contains (16 * w + b)))

/-! ### Enumerations as codes: the position in the chapter's list -/

/-- Code of a lane state (R98). -/
def LaneState.code : LaneState → Nat
  | .off => 0 | .probe => 1 | .ramp => 2 | .on => 3 | .blank => 4 | .muted => 5 | .lockout => 6
/-- Code of a row phase (R55). -/
def RowPhase.code : RowPhase → Nat
  | .idle => 0 | .pending => 1 | .asserted => 2 | .clearing => 3
/-- Code of a zone state (R121). -/
def ZoneState.code : ZoneState → Nat
  | .normal => 0 | .blank => 1 | .lockout => 2
/-- Code of a point state (section 11.4). -/
def PointState.code : PointState → Nat
  | .valid => 0 | .stale => 1 | .held => 2 | .noValue => 3
/-- Code of a lockout cause (chapter 11: 0 none, 1 ARC, 2 PROBE). -/
def LockoutCause.code : LockoutCause → Nat
  | .none => 0 | .arc => 1 | .probe => 2
/-- Code of a lane mode (R96). -/
def LaneMode.code : LaneMode → Nat
  | .full => 0 | .reduced => 1
/-- Code of a head mode (section 11.5). -/
def HeadMode.code : HeadMode → Nat
  | .spread => 0 | .quad => 1
/-- Code of a result (section 11.4). -/
def ReplyResult.code : ReplyResult → Nat
  | .done => 0 | .partialDone => 1 | .queueFull => 2 | .range => 3 | .state => 4 | .phaseLocked => 5
  | .inconsistent => 6 | .unknown => 7
/-- Code of a site phase (section 11.2). -/
def Phase.code : Phase → Nat
  | .setup => 0 | .service => 1
/-- Code of a blocking state, in the order R158 names them. -/
def Blocking.code : Blocking → Nat
  | .blank => 0 | .latched => 1 | .lockout => 2
/-- Code of a value as its position in a list of values (chapter 11). -/
def codeIn {α : Type} [BEq α] (values : List α) (v : α) : Nat := values.idxOf v

/-! ### Entries as words, in the coding of section 11.3 -/

/-- A scope in two words (chapter 11). -/
def Scope.words : Scope → List Word
  | .lane l => [word 0, word l]
  | .zone z => [word 1, word z]
  | .site => [word 2, word 0]

/-- An arc scope in two words (section 11.3). -/
def ArcScope.words : ArcScope → List Word
  | .zone z => [word 1, word z]
  | .site => [word 2, word 0]
  | .none => [word 3, word 0]

/-- A signed value in two's complement. -/
def signedToWord (v : Int) : Word := BitVec.ofInt 16 v

/-- A point entry's fields. -/
def PointEntry.words (e : PointEntry) : List Word :=
  [word (codeIn pointKinds e.kind)] ++ e.scope.words ++
    match e.source with
    | .ratio f r => [word f, word r]
    | .head p i fold gain offset => [word p, word i, word (codeIn folds fold), word gain, signedToWord offset]

/-- A Head Table entry's fields. -/
def HeadEntry.words (e : HeadEntry) : List Word :=
  [word (e.expectedId.getD 16), word e.mode.code, word e.quadInput] ++ e.arcScope.words

/-- A curve's fields: the breakpoint count, then x and y of each. -/
def curveWords (c : Curve) : List Word := word c.length :: c.flatMap fun p => [word p.x, word p.y]

/-- A row's ceiling in two words. -/
def ceilingWords : Option CeilingForm → List Word
  | some (.fixed v) => [word 0, word v]
  | some (.curve c) => [word 1, word c]
  | none => [0xFFFF#16, 0xFFFF#16]

/-- A Condition Table entry's fields. -/
def RowEntry.words (e : RowEntry) : List Word :=
  [word e.source, word (codeIn senses e.sense), word e.threshold, word e.release, word e.qualifyCount,
    word e.releaseCount, word (codeIn actions e.action)] ++ ceilingWords e.ceiling ++ e.scope.words ++
  [word (codeIn latches e.latch), word (codeIn reports e.report), word (codeIn yesNo e.gated),
    word (codeIn yesNo e.scaled)]

/-- A zone plan entry's field. -/
def ZoneEntry.words (e : ZoneEntry) : List Word := [word e.zone]

/-- A budget class in two words. -/
def BudgetClass.words : BudgetClass → List Word
  | .strict r => [word 0, word r]
  | .weighted w => [word 1, word w]

/-- A lane plan entry's fields. -/
def LanePlan.words (p : LanePlan) : List Word :=
  [word p.ratedWatts] ++ words32 p.pcal ++ [wordOrNone p.ratioPoint] ++ p.budgetClass.words ++
    [word p.reducedLevel, word p.rampRate, word (codeIn probePolicies p.probePolicy)]

/-- The fourteen parameters. -/
def Parameters.words (p : Parameters) : List Word :=
  [word p.blindCeiling, word p.blindMuteCount, word p.headLossLimit, wordOrNone p.budgetPoint, word p.budgetCurve,
    word p.arcWindow, word p.arcLimit, word p.blankingCount, word p.restrikeLevel, word p.probeLevel,
    word p.probeLength, word p.probeRatioLimit, word p.probeRetries, word p.snapshotInterval]

/-- The site record's fields, B_max in two words. -/
def SiteRecord.words (r : SiteRecord) : List Word :=
  [word r.lanes, word r.zones, word r.heads, word r.sweepPeriod, word r.failLimit, word r.ratioFloor] ++
    words32 r.siteMaximum

/-- An entry that may be undefined: 1 and its fields, or 0 (section 11.3). -/
def entryWords {α : Type} (fields : α → List Word) : Option α → List Word
  | some e => word 1 :: fields e
  | none => [word 0]

/-! ### Reply data, in the order R169 to R171 and the owners' rules name the items (log entry 13) -/

/-- The code of a mute cause in a list: the row index, then 48 INHIBIT, 49 LINK_LOSS, 50 BLIND_MUTE (log entry 13). -/
def MuteCause.code : MuteCause → Nat
  | .row r => r | .inhibit => 48 | .linkLoss => 49 | .blindMute => 50

/-- The lane record's fields that stand before the mute causes in the order of R119. -/
def Lane.leadingWords (v : Lane) : List Word :=
  [word v.state.code, flag v.onRequest, word v.mode.code, word v.setpoint, word v.ceiling] ++ words32 v.demand ++
    words32 v.grant ++ [word v.budgetCeiling] ++ words32 v.target ++ words32 v.applied ++
    [word v.probeRemaining, word v.retriesUsed, word v.lockoutCause.code]

/-- The lane record's fields in the order of R119. -/
def Lane.words (v : Lane) (causes : List MuteCause) : List Word :=
  v.leadingWords ++ [word causes.length] ++ causes.map (fun c => word c.code) ++
    [flag v.muteInvolvedLatch, flag v.probeOwed, flag v.firstTurnOnDone] ++ words32 v.stateEntrySweep.toNat

/-- A zone record: state, blank remaining, the arc history as a list, the members as a set (R138). -/
def Zone.words (v : Zone) (members : List Nat) : List Word :=
  [word v.state.code, word v.blankRemaining, word v.arcHistory.length] ++
    v.arcHistory.flatMap (fun e => words32 e.toNat) ++ setWords 1 members

/-- A row's runtime record, whether it is effective, and its ceiling in force (R77). -/
def RowRuntime.words (q : RowRuntime) (effective : Bool) : List Word :=
  [word q.phase.code, word q.progress, flag q.latched, flag q.seen] ++
    words32OrNone (q.firstSweep.map (·.toNat)) ++
    [word q.assertions, wordOrNone q.extreme, flag effective, wordOrNone q.ceilingInForce]

/-- A point record: state, value, OVER, NOISY (R52). -/
def PointRecord.words (p : PointRecord) : List Word :=
  [word p.state.code, wordOrNone p.value, flag p.overRange, flag p.noisy]

/-- A reported mode and quad input, all ones while UNKNOWN (R165). -/
def reportedWords : Option ReportedMode → List Word
  | some m => [word m.mode.code, word m.quadInput]
  | none => [0xFFFF#16, 0xFFFF#16]

/-- The apportioner's state (R150). -/
def Budget.words (b : Budget) : List Word :=
  [word b.value] ++ words32 b.siteBudget ++ words32 b.demandSum ++ [flag b.short] ++ words32 b.unassigned

/-- A pending entry (R165). -/
def PendingEntry.words : PendingEntry → List Word
  | .point e => entryWords PointEntry.words e
  | .head e => entryWords HeadEntry.words e
  | .curve e => entryWords curveWords e
  | .row e => entryWords RowEntry.words e
  | .zone e => entryWords ZoneEntry.words e
  | .lane e => entryWords LanePlan.words e
  | .parameters p => p.words

/-- Reply payload words 5 onward (section 11.4). -/
def ReplyData.words : ReplyData → List Word
  | .empty => []
  | .loaded part index => [part, index]
  | .activated sweep deferrals => words32 sweep.toNat ++ [word deferrals]
  | .activationRefused rows lanes => [flag (0 < rows), flag (0 < lanes), word rows, word lanes]
  | .activationAbandoned b => [word b.code]
  | .inconsistent code item => [word code, word item]
  | .siteInForce r => r.words
  | .laneInForce st on mode setpoint => [word st.code, flag on, word mode.code, word setpoint]
  | .cleared rows lanes unlatched returned unlocked =>
    setWords 4 rows ++ setWords 1 lanes ++ [word unlatched, word returned, word unlocked]
  | .lane plan v causes => entryWords LanePlan.words plan ++ v.words causes
  | .zone v members => v.words members
  | .row found effective => entryWords (fun e => e.1.words ++ e.2.words effective) found
  | .point found => entryWords (fun e => e.1.words ++ e.2.words) found
  | .curve found => entryWords curveWords found
  | .head found reported stale lost =>
    entryWords HeadEntry.words found ++ reportedWords reported ++ [word stale, flag lost]
  | .siteRecord r phase pending b => r.words ++ [word phase.code, flag pending] ++ b.words
  | .parameters p => p.words
  | .pendingEntry e => e.words
  | .linkStatistics st => words32 st.framesTaken ++ words32 st.checkFailures ++ words32 st.unknownLane
  | .sweepStatistics st =>
    words32 st.launched ++ words32 st.timeouts ++ words32 st.frameChecks ++ words32 st.headerMismatches ++
      words32 st.countMismatches ++ words32 st.late
  | .alertSet a dropped droppedCount queueLength =>
    setWords 4 a.rows ++ setWords 1 a.lanes ++ setWords 1 a.headLost ++
      [flag a.senseBlind, flag a.linkLoss, flag a.inhibit, flag a.arcLineStuck, flag dropped, word droppedCount,
        word queueLength]
  | .restarted sweep => words32 sweep.toNat

/-- The data words that stand before any list that R169 to R171 let outgrow a payload: for a lane, the plan entry and
the record's fields before the mute causes. No other item's data outgrow a payload. -/
def ReplyData.leadingWords : ReplyData → List Word
  | .lane plan v _ => entryWords LanePlan.words plan ++ v.leadingWords
  | d => d.words

/-! ### Return frames (section 11.4) -/

/-- A frame with its check computed over words 1 to 66 (R179). -/
def makeFrame (header word2 : Word) (payload : List Word) : Frame :=
  { header, word2, payload, check := crc (header :: word2 :: payload) }

/-- The opening mark of drive-link and lane-port frames (section 11.2). -/
def driveMark : Word := 0xD37A#16

/-- A frame as the 68 words sent. -/
def Frame.words (f : Frame) : List Word := driveMark :: f.header :: f.word2 :: f.payload ++ [f.check]

/-- A return header (section 11.2): the kind in bits 15..14, the answered command's tag in bits 7..0 of a REPLY. -/
def returnHeader (kind : BitVec 2) (tag : Tag) : Word := kind ++ (0 : BitVec 6) ++ tag

/-- The data words a REPLY payload can hold behind its kind and result. -/
def replyDataRoom : Nat := 62

/-- The data words of a payload whose data do not fit: the words before the list that outgrew it stand in their places,
and the places from the list's count word on are free words (log entry 2). -/
def ReplyData.cutWords (draws : Nat) (d : ReplyData) : List Word :=
  (List.range replyDataRoom).map fun i => (d.leadingWords[i]?).getD (Config.freeReplyWord draws i)

/-- A REPLY payload (section 11.4). -/
def Reply.payload (draws : Nat) (r : Reply) : List Word :=
  if r.data.words.length ≤ replyDataRoom then payloadOf (r.kind :: word r.result.code :: r.data.words)
  else r.kind :: word r.result.code :: r.data.cutWords draws

/-- The refusal reply's payload (R167, section 11.4). -/
def Refused.payload (r : Refused) : List Word :=
  payloadOf ([0xFFFF#16, word ReplyResult.queueFull.code, word r.count] ++
    (List.range 16).map fun w => (r.tags >>> (16 * w)).setWidth 16)

/-- Notice kind and subject words (section 11.4). -/
def Subject.words : Subject → List Word
  | .row r => [word 0, word r]
  | .lane l => [word 1, word l]
  | .zone z => [word 2, word z]
  | .senseBlind => [word 3, word 0]
  | .arcLineStuck => [word 3, word 1]
  | .headLost k => [word 3, word (16 + k)]
  | .spuriousArc => [word 4, word 0]

/-- Notice state and latched-flag words (section 11.4). -/
def NoticeState.words : NoticeState → List Word
  | .row p latched => [word p.code, flag latched]
  | .lane st => [word st.code, word 0]
  | .zone st => [word st.code, word 0]
  | .raised => [word 1, word 0]
  | .released => [word 0, word 0]
  | .spurious => [word 0, word 0]

/-- Notice value words (section 11.4: FFFFFFFFh for none). -/
def NoticeValue.words : NoticeValue → List Word
  | .none => [0xFFFF#16, 0xFFFF#16]
  | .number n => words32 n
  | .cause c => words32 c.code

/-- A NOTICE payload (section 11.4). -/
def Notice.payload (n : Notice) : List Word :=
  payloadOf (n.subject.words ++ n.state.words ++ n.value.words ++ words32 n.sweep.toNat ++ [word n.changes])

/-- A snapshot measurement: value and point state, all ones when absent or without a value (section 11.4). -/
def measurementWords : Option Measurement → List Word
  | some m => [wordOrNone m.value, word m.state.code]
  | none => [0xFFFF#16, 0xFFFF#16]

/-- A lane's seven words of a snapshot (section 11.4). -/
def SnapshotLane.words (v : SnapshotLane) : List Word :=
  [word v.state.code] ++ words32 v.applied ++ measurementWords v.forward ++ measurementWords v.ratio

/-- A SNAPSHOT payload (section 11.4). -/
def Snapshot.payload (p : Snapshot) : List Word :=
  payloadOf (words32 p.sweep.toNat ++ p.lanes.flatMap SnapshotLane.words)

/-- The payload of a FILLER frame: all zeros (section 11.2). -/
def fillerPayload : List Word := List.replicate 64 0

/-- A lane-port filler frame: kind FILLER, sequence 0, payload 0 (R7). DESIGN CHOICE (log entry 39): the report hold bit of
its header is 0. -/
def fillerFrame : Frame := makeFrame 0 0 fillerPayload

/-! ### Forward frames as received (section 11.2) -/

/-- The header word of a DRIVE frame. -/
def driveHeader (lane : BitVec 3) (hold : Bool) (low : BitVec 10) : Word :=
  (1 : BitVec 2) ++ lane ++ BitVec.ofBool hold ++ low

/-- A forward frame by the kind its header names; kind code 3 is taken as FILLER (R1). -/
def decodeForward (header sequence : Word) (payload : List Word) : ForwardFrame :=
  let hold := header.getLsbD 10
  match (header.extractLsb' 14 2).toNat with
  | 1 => .drive (header.extractLsb' 11 3) hold (header.extractLsb' 0 10) sequence payload
  | 2 => .command hold (header.extractLsb' 0 8) payload
  | _ => .filler hold

/-- What the receiver finds when 68 words have come in from an expected frame boundary on (R2, R179, R180): a missing
opening mark, a frame with a bad check, or a frame with a good check. -/
def receiveWords (ws : List Word) : MidEvent :=
  if ws.getD 0 0 ≠ driveMark then .missingMark
  else if crc ((ws.drop 1).take 66) ≠ ws.getD 67 0 then .badFrame
  else .goodFrame (decodeForward (ws.getD 1 0) (ws.getD 2 0) ((ws.drop 3).take 64))

/-- The frame that an exciter sends for a forward frame (section 11.2). -/
def sentFrame : ForwardFrame → Frame
  | .drive lane hold low sequence samples => makeFrame (driveHeader lane hold low) sequence samples
  | .command hold tag payload =>
    makeFrame ((2 : BitVec 2) ++ (0 : BitVec 3) ++ BitVec.ofBool hold ++ (0 : BitVec 2) ++ tag) 0 payload
  | .filler hold => makeFrame ((0 : BitVec 5) ++ BitVec.ofBool hold ++ (0 : BitVec 10)) 0 fillerPayload

/-! ### Sweep frames (section 11.5) -/

/-- The opening mark of a sweep frame. -/
def sweepMark : Word := 0x2CB5#16

/-- Header A: marker A5h, tag, chain length less 1. -/
def headerA (tag : BitVec 4) (chainLength : Nat) : Word := 0xA5#8 ++ tag ++ BitVec.ofNat 4 (chainLength - 1)

/-- A slot word: the command in bits 15..14, the mode in bit 8, the quad input in bits 1..0. -/
def Slot.word : Slot → Word
  | .nop => 0
  | .setMode mode quad => Machine.word (16384 + 256 * mode.code + quad % 4)

/-- The words of a sweep frame as launched: mark, header A, header B, slots, check. -/
def sweepFrame (tag : BitVec 4) (chainLength : Nat) (slots : List Slot) : List Word :=
  let covered := headerA tag chainLength :: ~~~(headerA tag chainLength) :: slots.map Slot.word
  sweepMark :: covered ++ [crc covered]

end Sys2Proof.Machine
end

