-- ==== Sys2Proof/Machine/DrivePath.lean ====
section
/-! DEFINITION. The drive path: link lock, taking forward frames, scaling, lane ports, the pins, and the return direction
(chapter 1). Each operation is the effect of one event; R181 keeps them all from acting while RESET_N is low. -/

namespace Sys2Proof.Machine

/-! ### Taking a frame (R1, R4, R6, R7, R11) -/

/-- Every taken frame counts, and its report-hold flag becomes the current report hold. -/
def State.countTaken (s : State) (hold : Bool) : State :=
  { s with
    reportHold := hold
    linkStatistics := { s.linkStatistics with framesTaken := saturatingSucc greatest32 s.linkStatistics.framesTaken } }

/-- The multiplier fixed for a frame of lane `l` (R6): 0 while the force-zero set has a member. -/
def State.frameMultiplier (s : State) (l : Nat) : Nat := if s.forceZero then 0 else s.multiplier l

/-- A scaled frame: the header fields that the layout assigns and the sequence word as received, payload scaled, a new
check (R7). Header bits 9..0, which the layout does not assign to a DRIVE frame, are sent as 0 (R180; log entry 17). -/
def scaledFrame (m : Nat) (lane : BitVec 3) (hold : Bool) (sequence : Word) (samples : List Word) : Frame :=
  makeFrame (driveHeader lane hold 0) sequence (samples.map (scaleSample m))

/-- A taken DRIVE frame: scaled into its lane's holding slot, or discarded and counted for an unknown lane (R4, R6, R7). -/
def State.takeDrive (s : State) (lane : BitVec 3) (hold : Bool) (sequence : Word) (samples : List Word) : State :=
  if lane.toNat < s.siteRecord.lanes then
    let frame := scaledFrame (s.frameMultiplier lane.toNat) lane hold sequence samples
    { s with holdingSlots := s.holdingSlots.set lane.toNat (some frame) }
  else
    { s with linkStatistics :=
        { s.linkStatistics with unknownLane := saturatingSucc greatest32 s.linkStatistics.unknownLane } }

/-- A forward frame is taken (R1). Header bits 9..0 of a DRIVE frame are ignored (R180). -/
def State.takeFrame (s : State) : ForwardFrame → State
  | .drive lane hold _ sequence samples => (s.countTaken hold).takeDrive lane hold sequence samples
  | .command hold tag payload => (s.countTaken hold).submit tag payload
  | .filler hold => s.countTaken hold

/-! ### Link lock (R2, R3) -/

/-- Good frames in a row that lock the link. -/
def framesToLock : Nat := 4
/-- Bad frames in a row that lose lock. -/
def framesToLose : Nat := 8

/-- The link leaves LOCKED or ALIGNED for SEARCH; leaving LOCKED raises LINK_LOSS, which mutes lanes at once (R3, R110). -/
def State.enterSearch (s : State) : State :=
  let wasLocked := s.link == .locked
  let s := { s with link := .search }
  if wasLocked then s.muteLanes else s

/-- An opening mark is found: only a link in SEARCH looks for one. -/
def State.findMark (s : State) : State :=
  if s.link = .search then { s with link := .aligned, goodFrames := 0 } else s

/-- A frame completes with a good check (R2). -/
def State.goodFrame (s : State) (f : ForwardFrame) : State :=
  match s.link with
  | .search => s
  | .aligned =>
    if framesToLock ≤ s.goodFrames + 1 then
      { s with goodFrames := s.goodFrames + 1, badFrames := 0, link := .locked }.takeFrame f
    else { s with goodFrames := s.goodFrames + 1 }
  | .locked => { s with badFrames := 0 }.takeFrame f

/-- A complete frame's check fails (R14). -/
def State.countCheckFailure (s : State) : State :=
  { s with linkStatistics :=
      { s.linkStatistics with checkFailures := saturatingSucc greatest32 s.linkStatistics.checkFailures } }

/-- A frame completes with a bad check (R2). -/
def State.badFrame (s : State) : State :=
  match s.link with
  | .search => s
  | .aligned => s.countCheckFailure.enterSearch
  | .locked =>
    let s := { s.countCheckFailure with badFrames := s.badFrames + 1 }
    if framesToLose ≤ s.badFrames then s.enterSearch else s

/-- The word at an expected frame boundary is not the opening mark, or the line signal is lost (R2). -/
def State.missMark (s : State) : State := if s.link = .search then s else s.enterSearch

/-! ### Lane ports (R7) -/

/-- What lane `l`'s port sends at a boundary: its slot's frame, or filler; always filler at or above L. -/
def State.portFrame (s : State) (l : Nat) : Frame :=
  if l < s.siteRecord.lanes then (s.holdingSlots.getD l none).getD fillerFrame else fillerFrame

/-- A lane-port frame boundary: every port sends and every slot empties. -/
def State.lanePortBoundary (s : State) : State :=
  { s with
    lanePorts := (List.range laneCount).map fun l => some (s.portFrame l)
    holdingSlots := List.replicate laneCount none }

/-! ### Return direction (R12, R13) -/

/-- What the scheduler picks at a return frame boundary. -/
inductive ReturnItem where
  | notice (n : Notice)
  | refusal (r : Refused)
  | reply (r : Reply)
  | snapshot (p : Snapshot)
  | filler
  deriving DecidableEq, Repr

/-- The next reply in the reply order: the refusal record when no reply stands before it, else the oldest reply (R167,
R168). -/
def State.nextReply (s : State) : Option ReturnItem :=
  match s.refusal, s.replies with
  | some r, q :: _ => if r.ahead = 0 then some (.refusal r) else some (.reply q)
  | some r, [] => some (.refusal r)
  | none, q :: _ => some (.reply q)
  | none, [] => none

/-- The first that exists of the oldest notice, the oldest reply, the snapshot while hold is clear, and filler (R12). -/
def State.pickReturn (s : State) : ReturnItem :=
  match s.notices with
  | n :: _ => .notice n
  | [] =>
    match s.nextReply with
    | some item => item
    | none =>
      match s.snapshot with
      | some p => if s.reportHold then .filler else .snapshot p
      | none => .filler

/-- The state once the picked item has left its collection; a sent reply frees its command's place (R166). -/
def State.removeReturn (s : State) : ReturnItem → State
  | .notice _ => { s with notices := s.notices.tail }
  | .refusal _ => { s with refusal := none }
  | .reply _ =>
    { s with replies := s.replies.tail
             refusal := s.refusal.map fun r => { r with ahead := r.ahead - 1 } }
  | .snapshot _ => { s with snapshot := none }
  | .filler => s

/-- The frame that carries an item, with the site summary in word 2 (R13, sections 11.2 and 11.4). -/
def returnFrame (draws : Nat) (summary : Word) : ReturnItem → Frame
  | .notice n => makeFrame (returnHeader 1 0) summary n.payload
  | .refusal r => makeFrame (returnHeader 2 r.firstTag) summary r.payload
  | .reply r => makeFrame (returnHeader 2 r.tag) summary (r.payload draws)
  | .snapshot p => makeFrame (returnHeader 3 0) summary p.payload
  | .filler => makeFrame (returnHeader 0 0) summary fillerPayload

/-- A return frame boundary: the item and the site summary are those at the boundary. -/
def State.returnBoundary (s : State) : State :=
  let item := s.pickReturn
  { s.removeReturn item with
    returnPort := some (returnFrame s.draws s.siteSummary item)
    draws := s.draws + 1 }

/-! ### Pins (R8, R9, R10) -/

/-- INHIBIT_N falls: INHIBIT joins the force-zero set and the lanes' mute causes. -/
def State.inhibitFall (s : State) : State :=
  let t := { s with inhibitLow := true, forceInhibit := true }
  if s.forceInhibit then t else t.muteLanes

/-- INHIBIT_N rises: INHIBIT leaves the force-zero set, the mute causes and the alert set. -/
def State.inhibitRise (s : State) : State := { s with inhibitLow := false, forceInhibit := false }

/-- ARC_N falls: while the mask flag is clear and ARC_LINE is absent, ARC_LINE joins the force-zero set with the next
launch's sweep number as its resolving sweep. -/
def State.arcFall (s : State) : State :=
  if s.arcMasked || s.forceArcLine then { s with arcLow := true }
  else { s with arcLow := true, forceArcLine := true, resolvingSweep := s.sweepNumber + 1 }

/-- ARC_N rises: a set mask flag clears, ARC_LINE_STUCK is released, and its notice is queued (R10, R132). During
an evaluation the notice carries that evaluation's sweep number (DESIGN CHOICE, log entry 33). -/
def State.arcRise (s : State) : State :=
  if s.arcMasked then
    { s with arcLow := false, arcMasked := false }.queueNotice
      (conditionNotice .arcLineStuck false .none s.lastEvaluation)
  else { s with arcLow := false }

/-! ### Reset (R15, R181) -/

/-- RESET_N is released: every block takes its reset values, the pin levels are read and PROBE_POL is sampled. -/
def State.release (s : State) (probePolHigh : Bool) : State :=
  { s.cleared with
    inReset := false
    probePolHigh := probePolHigh
    forceInhibit := s.inhibitLow
    forceArcLine := s.arcLow
    resolvingSweep := if s.arcLow then 1 else 0 }

/-- While RESET_N is low no event is taken (R181). -/
def State.unlessReset (s : State) (f : State → State) : State := if s.inReset then s else f s

end Sys2Proof.Machine
end

