-- ==== Sys2Proof/Machine/DriveCommands.lean ====
section
/-! DEFINITION. The meanings of the drive-path commands: forward frames, frame boundaries, pins and reset. -/

namespace Sys2Proof.Machine

/-- OPENING_MARK_FOUND (R2). -/
def execOpeningMarkFound (s : State) : Host.Outcome State Fault Refusal := .next (s.unlessReset State.findMark)

/-- GOOD_FRAME_ALIGNED (R2): a frame completes with a good check. -/
def execGoodFrameAligned (f : ForwardFrame) (s : State) : Host.Outcome State Fault Refusal :=
  .next (s.unlessReset fun s => s.goodFrame f)

/-- BAD_CHECK_FRAME (R2). -/
def execBadCheckFrame (s : State) : Host.Outcome State Fault Refusal := .next (s.unlessReset State.badFrame)

/-- MISSING_OPENING_MARK (R2). -/
def execMissingOpeningMark (s : State) : Host.Outcome State Fault Refusal := .next (s.unlessReset State.missMark)

/-- DRIVE_FRAME (R4, R6): a DRIVE frame completes with a good check; it is taken when the link is LOCKED or locks. -/
def execDriveFrame (lane : BitVec 3) (hold : Bool) (low : BitVec 10) (sequence : Word) (samples : List Word)
    (s : State) : Host.Outcome State Fault Refusal :=
  .next (s.unlessReset fun s => s.goodFrame (.drive lane hold low sequence samples))

/-- COMMAND_FRAME (R166): a COMMAND frame completes with a good check. -/
def execCommandFrame (hold : Bool) (tag : Tag) (payload : List Word) (s : State) : Host.Outcome State Fault Refusal :=
  .next (s.unlessReset fun s => s.goodFrame (.command hold tag payload))

/-- FILLER_FRAME (R1): a FILLER frame, or one with an unknown kind code, completes with a good check. -/
def execFillerFrame (hold : Bool) (s : State) : Host.Outcome State Fault Refusal :=
  .next (s.unlessReset fun s => s.goodFrame (.filler hold))

/-- LANE_PORT_FRAME_BOUNDARY (R7). -/
def execLanePortFrameBoundary (s : State) : Host.Outcome State Fault Refusal :=
  .next (s.unlessReset State.lanePortBoundary)

/-- RETURN_FRAME_BOUNDARY (R12). -/
def execReturnFrameBoundary (s : State) : Host.Outcome State Fault Refusal :=
  .next (s.unlessReset State.returnBoundary)

/-- INHIBIT_N_ASSERT (R8). While RESET_N is low only the pin's level changes (R181). -/
def execInhibitNAssert (s : State) : Host.Outcome State Fault Refusal :=
  .next (if s.inReset then { s with inhibitLow := true } else s.inhibitFall)

/-- INHIBIT_N_DEASSERT (R8). While RESET_N is low only the pin's level changes (R181). -/
def execInhibitNDeassert (s : State) : Host.Outcome State Fault Refusal :=
  .next (if s.inReset then { s with inhibitLow := false } else s.inhibitRise)

/-- ARC_N_FALL (R9). While RESET_N is low only the pin's level changes (R181). -/
def execArcNFall (s : State) : Host.Outcome State Fault Refusal :=
  .next (if s.inReset then { s with arcLow := true } else s.arcFall)

/-- ARC_N_RISE (R10). While RESET_N is low only the pin's level changes (R181). -/
def execArcNRise (s : State) : Host.Outcome State Fault Refusal :=
  .next (if s.inReset then { s with arcLow := false } else s.arcRise)

/-- RESET_N_ASSERT (R181). -/
def execResetNAssert (s : State) : Host.Outcome State Fault Refusal := .next s.cleared

/-- RESET_N_RELEASE (R15), with the level of the PROBE_POL strap. -/
def execResetNRelease (probePolHigh : Bool) (s : State) : Host.Outcome State Fault Refusal :=
  .next (s.release probePolHigh)

end Sys2Proof.Machine
end

