-- ==== Sys2Proof/Machine/LoadCommands.lean ====
section
/-! DEFINITION. The meanings of the LOAD commands and of DISCARD. Each is a command that arrives at the command queue
with its payload (R166); it is taken when it reaches the head (R168), by the operation of its part. -/

namespace Sys2Proof.Machine

/-- A command arrives at the command queue with the payload words from word 3 on; nothing arrives while RESET_N is low
(R181). DESIGN CHOICE (log entry 7): the row is admitted whatever the link state. R3 lets no command join the queue while
the link is not LOCKED, so on a link that is not LOCKED the row stands for a command that joined before the loss of lock
and is taken now, which R168 allows. A COMMAND frame is taken only on a LOCKED link. -/
def State.arrive (s : State) (tag : Tag) (ws : List Word) : State :=
  if s.inReset then s else s.submit tag (payloadOf ws)

/-- LOAD_POINT (R38): LOAD of part 0. -/
def execLoadPoint (tag : Tag) (index definedWord : Word) (fields : List Word) (s : State) :
    Host.Outcome State Fault Refusal :=
  .next (s.arrive tag (1 :: 0 :: index :: definedWord :: fields))

/-- LOAD_HEAD (R153): LOAD of part 1. -/
def execLoadHead (tag : Tag) (index definedWord : Word) (fields : List Word) (s : State) :
    Host.Outcome State Fault Refusal :=
  .next (s.arrive tag (1 :: 1 :: index :: definedWord :: fields))

/-- LOAD_CURVE (R79): LOAD of part 2. -/
def execLoadCurve (tag : Tag) (index definedWord : Word) (fields : List Word) (s : State) :
    Host.Outcome State Fault Refusal :=
  .next (s.arrive tag (1 :: 2 :: index :: definedWord :: fields))

/-- LOAD_CONDITION (R54): LOAD of part 3. -/
def execLoadCondition (tag : Tag) (index definedWord : Word) (fields : List Word) (s : State) :
    Host.Outcome State Fault Refusal :=
  .next (s.arrive tag (1 :: 3 :: index :: definedWord :: fields))

/-- LOAD_ZONE_PLAN (R120): LOAD of part 4. -/
def execLoadZonePlan (tag : Tag) (index definedWord : Word) (fields : List Word) (s : State) :
    Host.Outcome State Fault Refusal :=
  .next (s.arrive tag (1 :: 4 :: index :: definedWord :: fields))

/-- LOAD_LANE_PLAN (R95): LOAD of part 5. -/
def execLoadLanePlan (tag : Tag) (index definedWord : Word) (fields : List Word) (s : State) :
    Host.Outcome State Fault Refusal :=
  .next (s.arrive tag (1 :: 5 :: index :: definedWord :: fields))

/-- LOAD_PARAMETERS (R153): LOAD of part 6. -/
def execLoadParameters (tag : Tag) (index definedWord : Word) (fields : List Word) (s : State) :
    Host.Outcome State Fault Refusal :=
  .next (s.arrive tag (1 :: 6 :: index :: definedWord :: fields))

/-- DISCARD (R154). -/
def execDiscard (tag : Tag) (s : State) : Host.Outcome State Fault Refusal := .next (s.arrive tag [2])

end Sys2Proof.Machine
end

