-- ==== Sys2Proof/Machine/ReadCommands.lean ====
section
/-! DEFINITION. The meanings of the READ commands: a READ payload with its item code, index and part (section 11.3). -/

namespace Sys2Proof.Machine

/-- READ_LANE (R119). -/
def execReadLane (tag : Tag) (index : Word) (s : State) : Host.Outcome State Fault Refusal :=
  .next (s.arrive tag [7, 0, index])

/-- READ_ZONE (R138). -/
def execReadZone (tag : Tag) (index : Word) (s : State) : Host.Outcome State Fault Refusal :=
  .next (s.arrive tag [7, 1, index])

/-- READ_ROW (R77). -/
def execReadRow (tag : Tag) (index : Word) (s : State) : Host.Outcome State Fault Refusal :=
  .next (s.arrive tag [7, 2, index])

/-- READ_POINT (R52). -/
def execReadPoint (tag : Tag) (index : Word) (s : State) : Host.Outcome State Fault Refusal :=
  .next (s.arrive tag [7, 3, index])

/-- READ_CURVE (R94). -/
def execReadCurve (tag : Tag) (index : Word) (s : State) : Host.Outcome State Fault Refusal :=
  .next (s.arrive tag [7, 4, index])

/-- READ_HEAD (R165). -/
def execReadHead (tag : Tag) (index : Word) (s : State) : Host.Outcome State Fault Refusal :=
  .next (s.arrive tag [7, 5, index])

/-- READ_SITE_RECORD (R165). -/
def execReadSiteRecord (tag : Tag) (s : State) : Host.Outcome State Fault Refusal := .next (s.arrive tag [7, 6])

/-- READ_PARAMETERS (R165). -/
def execReadParameters (tag : Tag) (s : State) : Host.Outcome State Fault Refusal := .next (s.arrive tag [7, 7])

/-- READ_PENDING_ENTRY (R165). -/
def execReadPendingEntry (tag : Tag) (index part : Word) (s : State) : Host.Outcome State Fault Refusal :=
  .next (s.arrive tag [7, 8, index, part])

/-- READ_LINK_STATISTICS (R14). -/
def execReadLinkStatistics (tag : Tag) (s : State) : Host.Outcome State Fault Refusal := .next (s.arrive tag [7, 9])

/-- READ_SWEEP_STATISTICS (R35). -/
def execReadSweepStatistics (tag : Tag) (s : State) : Host.Outcome State Fault Refusal := .next (s.arrive tag [7, 10])

/-- READ_ALERT_SET (R170). -/
def execReadAlertSet (tag : Tag) (s : State) : Host.Outcome State Fault Refusal := .next (s.arrive tag [7, 11])

end Sys2Proof.Machine
end

