-- ==== Sys2Proof/Machine/SiteBudget.lean ====
section
/-! DEFINITION. The budget apportioner (chapter 8). -/

namespace Sys2Proof.Machine

/-! ### The budget value (R141, R142) -/

/-- The budget value of this evaluation (R141). -/
def State.budgetValue (s : State) : Nat :=
  match s.activeSet.parameters.budgetPoint with
  | none => 1000
  | some i =>
    let p := s.pointOrNone i
    match p.state, p.value, s.activeSet.curve s.activeSet.parameters.budgetCurve with
    | .valid, some v, some curve => if p.noisy then s.budget.value else min 1000 (curveValue curve v)
    | _, _, _ => s.budget.value

/-- The site budget (R142). -/
def siteBudgetOf (siteMaximum value : Nat) : Nat := siteMaximum * value / 1000

/-! ### Apportionment (R143 to R146) -/

/-- A lane as the apportioner takes it: its number, its demand and its rank or weight. -/
structure Claim where
  lane : Nat
  demand : Nat
  share : Nat
  deriving DecidableEq, Repr

/-- Serves strict lanes in the order given (R144): each is granted min(D, r). -/
def serveStrict : Nat → List Claim → List (Nat × Nat) × Nat
  | r, [] => ([], r)
  | r, c :: rest =>
    let grant := min c.demand r
    let tail := serveStrict (r - grant) rest
    ((c.lane, grant) :: tail.1, tail.2)

/-- Serves weighted lanes in the order given (R146): each is granted min(D, floor(r × w / Wrem)). -/
def serveWeighted : Nat → Nat → List Claim → List (Nat × Nat) × Nat
  | r, _, [] => ([], r)
  | r, weightLeft, c :: rest =>
    let grant := min c.demand (r * c.share / weightLeft)
    let tail := serveWeighted (r - grant) (weightLeft - c.share) rest
    ((c.lane, grant) :: tail.1, tail.2)

/-- The order of weighted lanes (R145): ascending demand per unit of weight by cross products, then lane number. -/
def Claim.before (a b : Claim) : Bool :=
  a.demand * b.share < b.demand * a.share || (a.demand * b.share == b.demand * a.share && a.lane < b.lane)

/-- Puts a claim at its place in an ordered list. -/
def insertClaim (a : Claim) : List Claim → List Claim
  | [] => [a]
  | b :: rest => if a.before b then a :: b :: rest else b :: insertClaim a rest

/-- Orders weighted lanes (R145). -/
def orderWeighted : List Claim → List Claim
  | [] => []
  | a :: rest => insertClaim a (orderWeighted rest)

/-- Orders strict lanes (R144): ascending rank 1..8, then ascending lane number. `claims` is in lane order. -/
def orderStrict (claims : List Claim) : List Claim :=
  (List.range 9).flatMap fun rank => claims.filter fun c => c.share == rank

/-- The strict claims among the demands of lanes 0, 1, ...; a lane's share is its rank. -/
def strictClaims (t : TableSet) (demands : List Nat) : List Claim :=
  demands.zipIdx.filterMap fun (demand, lane) =>
    match t.plan lane with
    | some { budgetClass := .strict rank, .. } => some { lane, demand, share := rank }
    | _ => none

/-- The weighted claims among the demands; a lane's share is its weight. -/
def weightedClaims (t : TableSet) (demands : List Nat) : List Claim :=
  demands.zipIdx.filterMap fun (demand, lane) =>
    match t.plan lane with
    | some { budgetClass := .weighted weight, .. } => some { lane, demand, share := weight }
    | _ => none

/-- The sum of a list of claims' weights. -/
def totalWeight (claims : List Claim) : Nat := (claims.map (·.share)).sum

/-- The grants of a short budget, by lane, and what stays unassigned (R144 to R146). -/
def shareOut (t : TableSet) (siteBudget : Nat) (demands : List Nat) : List (Nat × Nat) × Nat :=
  let strict := serveStrict siteBudget (orderStrict (strictClaims t demands))
  let weighted := orderWeighted (weightedClaims t demands)
  let rest := serveWeighted strict.2 (totalWeight weighted) weighted
  (strict.1 ++ rest.1, rest.2)

/-- The grant listed for a lane, 0 for a lane with none. -/
def grantOf (grants : List (Nat × Nat)) (l : Nat) : Nat := (grants.lookup l).getD 0

/-- The apportioner's step (R139, R143): the new budget state and the grant of each lane, from the lanes' demands. -/
def apportion (t : TableSet) (siteBudget value : Nat) (demands : List Nat) : Budget × List Nat :=
  if demands.sum ≤ siteBudget then
    ({ value, siteBudget, demandSum := demands.sum, short := false, unassigned := siteBudget - demands.sum }, demands)
  else
    let p := shareOut t siteBudget demands
    ({ value, siteBudget, demandSum := demands.sum, short := true, unassigned := p.2 },
      (List.range demands.length).map (grantOf p.1))

end Sys2Proof.Machine
end

