-- ==== Sys2Proof/Machine/LaneHandling.lean ====
section
/-! DEFINITION. Lane handling, the sixth stage of the evaluation (R82): ceilings, settled states, demands, grants,
targets, applied scales and completion, each step for every lane below L before the next begins. -/

namespace Sys2Proof.Machine

/-! ### Step 1: ceilings (R83, R84) -/

/-- The reduced level of lane `l` from the active lane plan. Where the entry is undefined no rule states one: a free
value in the field's range 100..1000 (log entry 1). -/
def State.reducedLevel (s : State) (l : Nat) : Nat :=
  match s.activeSet.plan l with
  | some p => p.reducedLevel
  | none => min 1000 (max 100 (Config.freeReducedLevel s.draws l))

/-- The mode ceiling (R83). -/
def State.modeCeiling (s : State) (l : Nat) : Nat :=
  match (s.lane l).mode with
  | .full => 1250
  | .reduced => s.reducedLevel l

/-- The ceiling in force that row `r` contributes to lane `l` (R66, R83). -/
def State.rowCeiling (s : State) (l r : Nat) : Option Nat :=
  if s.effectiveRow (fun d => d.action == .ceiling && covers s.activeSet s.siteRecord.lanes d.scope l) r then
    (s.rowRuntime r).bind (·.ceilingInForce)
  else none

/-- The ceilings of every effective CEILING row that covers lane `l`. -/
def State.rowCeilings (s : State) (l : Nat) : List Nat := (List.range rowCount).filterMap (s.rowCeiling l)

/-- Lane `l` is served by head position `h` (R34): through a defined point on `h` whose scope covers the lane. -/
def State.headServes (s : State) (h l : Nat) : Bool :=
  (List.range pointCount).any fun i =>
    match s.activeSet.point i with
    | some { source := .head position _ _ _ _, scope := scope, .. } =>
      position == h && covers s.activeSet s.siteRecord.lanes scope l
    | _ => false

/-- The blind ceiling is present among lane `l`'s components (R84). -/
def State.blindCapped (s : State) (l : Nat) : Bool :=
  s.senseBlind || (List.range headCount).any fun h => s.isHeadLost h && s.headServes h l

/-- The components of lane `l`'s ceiling (R83). -/
def State.ceilingComponents (s : State) (l : Nat) : List Nat :=
  [(s.lane l).setpoint, s.modeCeiling l] ++ s.rowCeilings l ++
    (if s.blindCapped l then [s.activeSet.parameters.blindCeiling] else [])

/-- The least of the components, clamped to 0..1250 (R83). -/
def State.composedCeiling (s : State) (l : Nat) : Nat := (s.ceilingComponents l).foldl min 1250

/-- Step 1 on one lane. -/
def composeLane (l : Nat) (s : State) : State := s.setLane l { s.lane l with ceiling := s.composedCeiling l }

/-! ### Step 2: settled states (R100 to R107, R111 to R114) -/

/-- A settled state as later steps read it: silent, in PROBE, or in RAMP or ON, which are not yet told apart (R82);
`entered` marks a PROBE entered at this step, `restriking` a restriking lane (R91). -/
inductive Settled where
  | silent
  | probe (entered : Bool)
  | running (restriking : Bool)
  deriving DecidableEq, Repr

/-- The parameters a probe is judged by (R105, R106). -/
structure ProbeRules where
  length : Nat
  ratioLimit : Nat
  retries : Nat
  deriving DecidableEq, Repr

/-- The probe parameters of the active set. -/
def State.probeRules (s : State) : ProbeRules :=
  { length := s.activeSet.parameters.probeLength
    ratioLimit := s.activeSet.parameters.probeRatioLimit
    retries := s.activeSet.parameters.probeRetries }

/-- A probe passes (R105): the plan names no ratio point, or it is VALID with a value at most the limit. -/
def probePasses (limit : Nat) (ratio : Option PointRecord) : Bool :=
  match ratio with
  | none => true
  | some p => p.state == .valid && p.value.any (· ≤ limit)

/-- The record of lane `l`'s ratio point, none when its plan names none. -/
def State.laneRatio (s : State) (l : Nat) : Option PointRecord :=
  ((s.activeSet.plan l).bind (·.ratioPoint)).map s.pointOrNone

/-- A probe is judged (R105, R106): a pass enters RAMP, a failure restarts the probe or locks the lane out. -/
def Lane.judgeProbe (v : Lane) (rules : ProbeRules) (passed : Bool) : Lane :=
  if passed then { v with state := .ramp, probeRemaining := 0, retriesUsed := 0 }
  else if v.retriesUsed + 1 ≤ rules.retries then
    { v with probeRemaining := rules.length, retriesUsed := v.retriesUsed + 1 }
  else
    { v with
      state := .lockout, lockoutCause := .probe, probeRemaining := 0, retriesUsed := v.retriesUsed + 1
      probeOwed := false }

/-- A lane in PROBE at an evaluation after its entry (R105): counted down, and judged at 0. -/
def Lane.countProbe (v : Lane) (rules : ProbeRules) (passed : Bool) : Lane :=
  if 1 < v.probeRemaining then { v with probeRemaining := v.probeRemaining - 1 } else v.judgeProbe rules passed

/-- A lane as it leaves MUTED: mute-involved-latch is cleared (R112). -/
def Lane.leaveMuted (v : Lane) : Lane := if v.state = .muted then { v with muteInvolvedLatch := false } else v

/-- The situation by which a lane settles (R100). -/
structure Situation where
  zoneLockout : Bool
  zoneBlank : Bool
  muted : Bool
  latchedMute : Bool
  policyProbes : Bool
  rules : ProbeRules
  passed : Bool
  deriving DecidableEq, Repr

/-- The situation of lane `l` at step 2. -/
def State.situation (s : State) (l : Nat) : Situation :=
  { zoneLockout := s.zoneIs l (· == .lockout)
    zoneBlank := s.zoneIs l (· == .blank)
    muted := s.muteCauses l ≠ []
    latchedMute := s.latchedMute l
    policyProbes := s.probesAtMuteExit l
    rules := s.probeRules
    passed := probePasses s.probeRules.ratioLimit (s.laneRatio l) }

/-- The lane is to enter PROBE at this evaluation (R104): at an exit from MUTED by policy or for an owed probe, or at a
restrike that owes a probe. -/
def Lane.entersProbe (v : Lane) (x : Situation) : Bool :=
  (v.state == .muted && (x.policyProbes || v.probeOwed)) || (v.restriking && v.probeOwed)

/-- The lane record and the settled state of a lane at step 2, by the first line of R100 whose condition holds. The line of a
clear on request writes what LANE off writes, retries used 0 among it (DESIGN CHOICE, log entry 32). -/
def Lane.settle (v : Lane) (x : Situation) : Lane × Settled :=
  if x.zoneLockout then
    ({ v.leaveMuted with state := .lockout, lockoutCause := .arc, probeRemaining := 0, probeOwed := false }, .silent)
  else if v.onRequest = false then (v.turnedOff, .silent)
  else if v.state = .lockout ∧ v.lockoutCause = .probe then (v, .silent)
  else if x.muted then
    ({ v.abandonProbe with state := .muted, muteInvolvedLatch := v.muteInvolvedLatch || x.latchedMute }, .silent)
  else if x.zoneBlank then
    ({ v.abandonProbe.leaveMuted with
        state := .blank
        probeOwed := v.abandonProbe.probeOwed || (v.state == .muted && x.policyProbes) }, .silent)
  else if v.entersProbe x then
    ({ v.leaveMuted with state := .probe, probeRemaining := x.rules.length, probeOwed := false }, .probe true)
  else if v.state = .probe then
    let w := v.countProbe x.rules x.passed
    (w, if w.state = .probe then .probe false else if w.state = .ramp then .running false else .silent)
  else
    ({ v.leaveMuted with state := if v.state = .on then .on else .ramp }, .running v.restriking)

/-- The state that step 2 judges lane `l` from: the one it held when the fifth stage began where a blank entry has moved
it since, and otherwise the one it stands in, which an event may have given it (R82). -/
def State.judgedState (s : State) (l : Nat) : LaneState :=
  (s.evaluation.bind fun e => e.movedFrom.getD l none).getD (s.lane l).state

/-- Lane `l` settles: no event has muted it since, and no move is left to judge (R82). -/
def State.beginSettled (s : State) (l : Nat) : State :=
  { s with evaluation := s.evaluation.map fun e =>
      { e with mutedSince := e.mutedSince.set l false, movedFrom := e.movedFrom.set l none } }

/-- Step 2 on one lane: its settled record is written, and its settled state joins those of the lanes before it. DESIGN
CHOICE (log entry 41): the lane is judged by the mute causes of this moment, so a release of INHIBIT or LINK_LOSS taken inside
step 2 lets the lanes that have not settled leave MUTED, and those that have stay MUTED until the next evaluation. -/
def settleLane (meanwhile : Meanwhile) (p : State × List Settled) (l : Nat) : State × List Settled :=
  let x := { p.1.lane l with state := p.1.judgedState l }.settle (p.1.situation l)
  (meanwhile (.settledLane l) ((p.1.beginSettled l).setLane l x.1), p.2 ++ [x.2])

/-! ### Steps 3 to 6 -/

/-- A settled state that demands power and has a target (R85, R87): PROBE, RAMP or ON. -/
def Settled.driven : Settled → Bool
  | .silent => false
  | .probe _ => true
  | .running _ => true

/-- Step 3: lane `l`'s demand (R85). -/
def State.laneDemand (s : State) (l : Nat) (x : Settled) : Nat :=
  match s.activeSet.plan l with
  | some p => if x.driven then demandOf p.ratedWatts (s.lane l).ceiling else 0
  | none => 0

/-- Step 6: the applied scale of a settled lane (R90, R91). -/
def appliedScale (p : LanePlan) (q : Parameters) (x : Settled) (target previous : Nat) : Nat :=
  match x with
  | .silent => 0
  | .probe true => 0
  | .probe false => min (levelScale p.pcal q.probeLevel) target
  | .running true => min (levelScale p.pcal q.restrikeLevel) target
  | .running false => min target (previous + rampStep p.pcal p.rampRate)

/-- Step 5: the target of a settled lane (R87). -/
def settledTarget (p : LanePlan) (x : Settled) (budgetCeiling : Nat) : Nat :=
  if x.driven then targetOf p.pcal budgetCeiling else 0

/-- Step 7: a lane in RAMP or ON is ON when A equals T, and otherwise RAMP (R108). -/
def completedState (x : Settled) (st : LaneState) (target applied : Nat) : LaneState :=
  match x with
  | .running _ => if applied = target then .on else .ramp
  | _ => st

/-- The lane record after steps 3 to 7, from its settled record `v`. DESIGN CHOICE (log entry 40): a lane that ends in the state
`start` in which it began the evaluation, whatever the zone controller moved it to meanwhile, keeps its state entry sweep. -/
def Lane.complete (v : Lane) (plan : Option LanePlan) (q : Parameters) (x : Settled) (demand grant : Nat)
    (start : LaneState) (sweep : SweepNo) : Lane :=
  let budgetCeiling :=
    match plan with
    | some p => budgetCeilingOf p.ratedWatts v.ceiling demand grant
    | none => v.ceiling
  let target := match plan with
    | some p => settledTarget p x budgetCeiling
    | none => 0
  let applied := match plan with
    | some p => appliedScale p q x target v.applied
    | none => 0
  let state := completedState x v.state target applied
  { v with
    demand, grant, budgetCeiling, target, applied, state
    restriking := false
    stateEntrySweep := if state = start then v.stateEntrySweep else sweep }

/-- A lane that an INHIBIT or LINK_LOSS event has muted since step 2 keeps the event's state and zero scales; its
demand, grant and budget ceiling stand as computed (R82, R147). -/
def Lane.completeMuted (v : Lane) (plan : Option LanePlan) (demand grant : Nat) : Lane :=
  { v with
    demand, grant
    budgetCeiling := match plan with
      | some p => budgetCeilingOf p.ratedWatts v.ceiling demand grant
      | none => v.ceiling }

/-! ### Step 7: completion (R92, R116) -/

/-- The state that lane `l` is compared with for its notice (R116). -/
def State.startState (s : State) (l : Nat) : LaneState :=
  match s.evaluation with
  | some e => e.startStates.getD l .off
  | none => (s.lane l).state

/-- An event has muted lane `l` since step 2 (R82). -/
def State.mutedSince (s : State) (l : Nat) : Bool :=
  match s.evaluation with
  | some e => e.mutedSince.getD l false
  | none => false

/-- Step 7 on one lane: the record is completed, the applied scale handed over, and the notice queued. -/
def completeLane (sweep : SweepNo) (settled : List Settled) (demands grants : List Nat) (l : Nat) (s : State) : State :=
  let plan := s.activeSet.plan l
  let demand := demands.getD l 0
  let grant := grants.getD l 0
  if s.mutedSince l then s.setLane l ((s.lane l).completeMuted plan demand grant)
  else
    let start := s.startState l
    let v := (s.lane l).complete plan s.activeSet.parameters (settled.getD l .silent) demand grant start sweep
    (s.setLaneScaled l v).queueNotice? (laneChangeNotice l start v)

/-- Steps 1 and 2: the ceilings, then the settled states of the lanes below L. DESIGN CHOICE (log entry 41): step 2 settles
them in ascending lane number. -/
def settleStage (s : State) (meanwhile : Meanwhile := undisturbed) : State × List Settled :=
  let lanes := List.range s.siteRecord.lanes
  lanes.foldl (settleLane meanwhile) (forEach lanes composeLane s, [])

/-- Steps 3 to 7. The draw counter moves on, so that each evaluation draws afresh. -/
def completeStage (sweep : SweepNo) (settled : List Settled) (s : State) (meanwhile : Meanwhile := undisturbed) :
    State :=
  let lanes := List.range s.siteRecord.lanes
  let demands := lanes.map fun l => s.laneDemand l (settled.getD l .silent)
  let value := s.budgetValue
  let p := apportion s.activeSet (siteBudgetOf s.siteRecord.siteMaximum value) value demands
  let s := { s with budget := p.1, draws := s.draws + 1 }
  forEach lanes (fun l s => meanwhile (.completedLane l) (completeLane sweep settled demands p.2 l s)) s

end Sys2Proof.Machine
end

