-- ==== Sys2Proof/Machine/SenseLoop.lean ====
section
/-! DEFINITION. The sense controller (chapter 2): launching a sweep, reading and judging a return, and sense
classification, the first stage of the evaluation. -/

namespace Sys2Proof.Machine

/-! ### Launch (R18, R19) -/

/-- A defined Head Table entry differs from the reported mode (R19). -/
def headDiffers (e : HeadEntry) : Option ReportedMode → Bool
  | none => true
  | some m => e.mode != m.mode || (e.mode == .quad && e.quadInput != m.quadInput)

/-- Command slot `k` of the next launch (R19). -/
def State.slotFor (s : State) (k : Nat) : Slot :=
  match s.activeSet.head k with
  | some e => if headDiffers e (s.reportedMode k) then .setMode e.mode (if e.mode = .quad then e.quadInput else 0) else .nop
  | none => .nop

/-- A launch: the next sweep number, the in-flight record, the sweep frame, and the count (R18). -/
def State.launch (s : State) : State :=
  let sweep := s.sweepNumber + 1
  let slots := (List.range s.siteRecord.heads).map s.slotFor
  let tag := sweep.setWidth 4
  { s with
    sweepNumber := sweep
    inFlight := some { sweep, tag, chainLength := s.siteRecord.heads, slots }
    loopOutput := some (sweepFrame tag s.siteRecord.heads slots)
    sweepStatistics := { s.sweepStatistics with launched := saturatingSucc greatest32 s.sweepStatistics.launched } }

/-! ### Reading a return (R23) -/

/-- A head record as its six words (section 11.5). -/
structure HeadRecord where
  identity : Word
  r0 : Word
  r1 : Word
  r2 : Word
  r3 : Word
  check : Word
  deriving DecidableEq, Repr

/-- A return as read: its records, header A, header B, and whether the frame check is good. -/
structure LoopReturn where
  records : List HeadRecord
  headerA : Word
  headerB : Word
  checkGood : Bool
  deriving DecidableEq, Repr

/-- A group start carries the record marker 011b (section 11.5). -/
def isRecordStart (w : Word) : Bool := w.extractLsb' 13 3 == 3#3
/-- A group start carries the header marker A5h (section 11.5). -/
def isHeaderStart (w : Word) : Bool := w.extractLsb' 8 8 == 0xA5#8

/-- The most records that may come before header A (R23). -/
def greatestRecords : Nat := 16

/-- The words from header A on: header B, the slots that header A's chain length gives, and the check. -/
def readTail (records : List HeadRecord) (a : Word) (rest : List Word) : Option LoopReturn :=
  let slotCount := (a.extractLsb' 0 4).toNat + 1
  match rest with
  | b :: rest =>
    match rest[slotCount]? with
    | some check => some { records, headerA := a, headerB := b, checkGood := crc (a :: b :: rest.take slotCount) == check }
    | none => none
  | [] => none

/-- Reads six-word groups up to header A; none is a malformed return (R23). `room` is how many more records may come. -/
def readGroups : Nat → List HeadRecord → List Word → Option LoopReturn
  | _, _, [] => none
  | room, records, w :: rest =>
    if isHeaderStart w then readTail records w rest
    else if isRecordStart w then
      match room, rest with
      | room + 1, a :: b :: c :: d :: e :: rest => readGroups room (records ++ [⟨w, a, b, c, d, e⟩]) rest
      | _, _ => none
    else none

/-- A return read from its opening mark onward: the words that follow the mark (R23). -/
def readReturn (ws : List Word) : Option LoopReturn := readGroups greatestRecords [] ws

/-! ### Head records (R21, section 11.5) -/

/-- The head id. -/
def HeadRecord.headId (r : HeadRecord) : Nat := (r.identity.extractLsb' 9 4).toNat
/-- The mode the record's readings were taken in. -/
def HeadRecord.mode (r : HeadRecord) : HeadMode := if r.identity.getLsbD 8 then .quad else .spread
/-- The quad input of the record. -/
def HeadRecord.quadInput (r : HeadRecord) : Nat := (r.identity.extractLsb' 6 2).toNat
/-- The arc flag. -/
def HeadRecord.arcFlag (r : HeadRecord) : Bool := r.identity.getLsbD 5
/-- The noise flag. -/
def HeadRecord.noiseFlag (r : HeadRecord) : Bool := r.identity.getLsbD 4
/-- The over-range flag of reading slot `i`. -/
def HeadRecord.overFlag (r : HeadRecord) (i : Nat) : Bool := r.identity.getLsbD i
/-- Reading slot `i`. -/
def HeadRecord.reading (r : HeadRecord) (i : Nat) : Nat := ([r.r0, r.r1, r.r2, r.r3].getD i 0).toNat
/-- The record check agrees with the words it covers (R179). -/
def HeadRecord.checkGood (r : HeadRecord) : Bool := crc [r.identity, r.r0, r.r1, r.r2, r.r3] == r.check

/-! ### Judging a return (R24) -/

/-- How a return is judged against the in-flight sweep. -/
inductive Judgement where
  | frameCheck
  | late
  | headerMismatch
  | countMismatch
  | valid (records : List HeadRecord)
  deriving DecidableEq, Repr

/-- The first line of R24's table that applies. -/
def judgeReturn (f : InFlight) (ws : List Word) : Judgement :=
  match readReturn ws with
  | none => .frameCheck
  | some r =>
    if !r.checkGood then .frameCheck
    else if r.headerA.extractLsb' 4 4 ≠ f.tag then .late
    else if r.headerB ≠ ~~~r.headerA ∨ (r.headerA.extractLsb' 0 4).toNat + 1 ≠ f.chainLength then .headerMismatch
    else if r.records.length ≠ f.chainLength then .countMismatch
    else .valid r.records

/-! ### Sense classification (R27 to R33) -/

/-- A record is stale against the active Head Table entry of its position (R28). -/
def recordStale (e : Option HeadEntry) (r : HeadRecord) : Bool :=
  !r.checkGood ||
    match e with
    | none => false
    | some e =>
      e.expectedId.any (· != r.headId) || e.mode != r.mode || (e.mode == .quad && e.quadInput != r.quadInput)

/-- What the sense controller hands to the later stages (R27): the current sweep number, whether the sweep is valid, and
the fresh record of each position, none for a position without one. -/
structure Classified where
  sweep : SweepNo
  valid : Bool
  fresh : List (Option HeadRecord)
  deriving DecidableEq, Repr

/-- The fresh record at position `k`. -/
def Classified.record (c : Classified) (k : Nat) : Option HeadRecord := c.fresh.getD k none

/-- The fresh records of a valid sweep, in position order. -/
def freshRecords (t : TableSet) (records : List HeadRecord) : List (Option HeadRecord) :=
  records.zipIdx.map fun (r, k) => if recordStale (t.head k) r then none else some r

/-- The reported modes after a valid sweep (R29): set by each record whose record check is good. -/
def reportModes (old : List (Option ReportedMode)) (records : List HeadRecord) : List (Option ReportedMode) :=
  old.zipIdx.map fun (m, k) =>
    match records[k]? with
    | some r => if r.checkGood then some { mode := r.mode, quadInput := r.quadInput } else m
    | none => m

/-- A failed sweep counts (R31, R32): SENSE_BLIND at the fail limit, BLIND_MUTE at the fail limit plus the blind mute
count. -/
def State.failedSweep (s : State) (sweep : SweepNo) : State :=
  let failures := saturatingSucc 65535 s.consecutiveFailures
  let s := { s with consecutiveFailures := failures }
  let s :=
    if s.siteRecord.failLimit ≤ failures ∧ s.senseBlind = false then
      { s with senseBlind := true }.queueNotice (conditionNotice .senseBlind true (.number failures) sweep)
    else s
  if s.siteRecord.failLimit + s.activeSet.parameters.blindMuteCount ≤ failures then { s with blindMute := true } else s

/-- A valid sweep ends the count (R31, R32). -/
def State.validSweep (s : State) (sweep : SweepNo) : State :=
  let t := { s with consecutiveFailures := 0, blindMute := false }
  if s.senseBlind then
    { t with senseBlind := false }.queueNotice (conditionNotice .senseBlind false (.number 0) sweep)
  else t

/-- The stale count and HEAD_LOST of position `k` at a valid sweep (R33, R34). `fresh` is none for a position at or
beyond the chain length. -/
def countStale (sweep : SweepNo) (fresh : List (Option HeadRecord)) (k : Nat) (s : State) : State :=
  let count :=
    match fresh[k]? with
    | some none => saturatingSucc 255 (s.staleCount k)
    | _ => 0
  let lost :=
    match fresh[k]? with
    | some none => s.isHeadLost k || s.activeSet.parameters.headLossLimit ≤ count
    | _ => false
  let t := { s with staleCounts := s.staleCounts.set k count, headLost := s.headLost.set k lost }
  if lost = s.isHeadLost k then t
  else t.queueNotice (conditionNotice (.headLost k) lost (.number count) sweep)

/-- Sense classification, the first stage (R27). The records are those of a valid sweep, none for a failed one. -/
def classify (sweep : SweepNo) (records : Option (List HeadRecord)) (s : State) (meanwhile : Meanwhile := undisturbed) :
    State × Classified :=
  match records with
  | none => (meanwhile .failureCount (s.failedSweep sweep), { sweep, valid := false, fresh := [] })
  | some records =>
    let fresh := freshRecords s.activeSet records
    let s := { s with reportedModes := reportModes s.reportedModes records }
    let s := forEach (List.range headCount) (fun k s => meanwhile (.headStale k) (countStale sweep fresh k s))
      (meanwhile .failureCount (s.validSweep sweep))
    (s, { sweep, valid := true, fresh })

/-- The records an application re-marks stale (R30). -/
def Classified.remark (c : Classified) (changed : Nat → Bool) : Classified :=
  { c with fresh := c.fresh.zipIdx.map fun (r, k) => if changed k then none else r }

end Sys2Proof.Machine
end

