-- ==== Sys2Proof/Machine/PointUpdate.lean ====
section
/-! DEFINITION. The point update, the third stage of the evaluation (chapter 3). -/

namespace Sys2Proof.Machine

/-! ### Points that read a head (R40 to R43) -/

/-- A point that takes no fresh value: STALE with its value kept, or NO_VALUE (R40). Markers are cleared (R39). -/
def PointRecord.unfresh (p : PointRecord) : PointRecord :=
  match p.value with
  | some v => { state := .stale, value := some v, overRange := false, noisy := false }
  | none => PointRecord.initial

/-- The raw reading of an input of a fresh record and whether any over-range flag considered is set (R41); none when a
QUAD record does not sample the input. -/
def rawReading (r : HeadRecord) (input : Nat) (fold : Fold) : Option (Nat × Bool) :=
  match r.mode with
  | .spread => some (r.reading input, r.overFlag input)
  | .quad =>
    if r.quadInput = input then
      some (foldSamples fold (r.reading 0) (r.reading 1) (r.reading 2) (r.reading 3),
        r.overFlag 0 || r.overFlag 1 || r.overFlag 2 || r.overFlag 3)
    else none

/-- A point converted from a fresh record (R41 to R43). -/
def convertPoint (kind : PointKind) (input : Nat) (fold : Fold) (gain : Nat) (offset : Int) (r : HeadRecord)
    (p : PointRecord) : PointRecord :=
  match rawReading r input fold with
  | some (raw, overRange) =>
    { state := .valid
      value := some (if overRange then kind.maximum else convertRaw kind raw gain offset)
      overRange, noisy := r.noiseFlag }
  | none => p.unfresh

/-- The first pass on one point: every kind but RATIO (R40). -/
def firstPass (c : Classified) (e : Option PointEntry) (p : Option PointRecord) : Option PointRecord :=
  match e, p with
  | some { source := .head position input fold gain offset, kind := kind, .. }, some p =>
    match c.record position with
    | some r => some (convertPoint kind input fold gain offset r p)
    | none => some p.unfresh
  | _, p => p

/-! ### RATIO points (R44 to R47) -/

/-- A RATIO point from its two sources as the first pass left them. -/
def ratioPoint (ratioFloor : Nat) (forward reflected p : PointRecord) : PointRecord :=
  match forward.state, forward.value, reflected.state, reflected.value with
  | .valid, some f, .valid, some g =>
    let overRange := forward.overRange || reflected.overRange
    let noisy := forward.noisy || reflected.noisy
    if ratioFloor ≤ f then { state := .valid, value := some (returnRatio f g), overRange, noisy }
    else
      match p.value with
      | some v => { state := .held, value := some v, overRange, noisy }
      | none => PointRecord.initial
  | _, _, _, _ => p.unfresh

/-- The second pass on one point: RATIO points (R40). -/
def secondPass (ratioFloor : Nat) (records : List (Option PointRecord)) (e : Option PointEntry)
    (p : Option PointRecord) : Option PointRecord :=
  match e, p with
  | some { source := .ratio f g, .. }, some p =>
    some (ratioPoint ratioFloor ((records.getD f none).getD PointRecord.initial)
      ((records.getD g none).getD PointRecord.initial) p)
  | _, p => p

/-- Both passes over the point records (R40). -/
def updatedPoints (t : TableSet) (ratioFloor : Nat) (c : Classified) (records : List (Option PointRecord)) :
    List (Option PointRecord) :=
  let first := records.zipIdx.map fun (p, i) => firstPass c (t.point i) p
  first.zipIdx.map fun (p, i) => secondPass ratioFloor first (t.point i) p

/-- The point update (R40). -/
def pointStage (c : Classified) (s : State) : State :=
  { s with pointRecords := updatedPoints s.activeSet s.siteRecord.ratioFloor c s.pointRecords }

end Sys2Proof.Machine
end

