-- ==== Sys2Proof/Machine/RowAdvance.lean ====
section
/-! DEFINITION. Row advance, the fourth stage of the evaluation (chapter 4). -/

namespace Sys2Proof.Machine

/-! ### Advancing or frozen (R57, R58) -/

/-- The lanes of a ZONE or SITE scope are all OFF or ON, and at least one is ON (R58). -/
def State.settledOn (s : State) (lanes : List Nat) : Bool :=
  (lanes.all fun l => (s.lane l).state == .off || (s.lane l).state == .on) && lanes.any fun l => (s.lane l).state == .on

/-- A row's gating is satisfied (R58). -/
def State.gatingSatisfied (s : State) (d : RowEntry) : Bool :=
  !d.gated ||
    match d.scope with
    | .lane l => (s.lane l).state == .on
    | .zone z => s.settledOn (s.activeSet.members s.siteRecord.lanes z)
    | .site => s.settledOn (List.range s.siteRecord.lanes)

/-- The source value a row advances on: the value of a VALID source that is not NOISY (R57). -/
def State.advanceValue (s : State) (d : RowEntry) : Option Nat :=
  let p := s.pointOrNone d.source
  if p.state = .valid ∧ p.noisy = false ∧ s.gatingSatisfied d then p.value else none

/-! ### Comparison (R59) -/

/-- The three outcomes of a comparison (R59). -/
inductive Outcome where
  | crossing | release | neither
  deriving DecidableEq, Repr

/-- A threshold or release scaled by a reduced level (R59). -/
def scaledBy (level v : Nat) : Nat := v * level / 1000

/-- The reduced level that scales a row's comparison, when R59's three conditions hold. -/
def State.rowScale (s : State) (d : RowEntry) : Option Nat :=
  match d.scope, s.activeSet.point d.source with
  | .lane l, some e =>
    if d.scaled ∧ (e.kind = .fwd ∨ e.kind = .ref) ∧ (s.lane l).mode = .reduced then
      (s.activeSet.plan l).map (·.reducedLevel)
    else none
  | _, _ => none

/-- The comparison of a value with an effective threshold and release (R59). -/
def compareRow (sense : Sense) (threshold release v : Nat) : Outcome :=
  match sense with
  | .above => if threshold < v then .crossing else if v < release then .release else .neither
  | .below => if v < threshold then .crossing else if release < v then .release else .neither

/-- The outcome of a row's comparison at value `v`. -/
def State.rowOutcome (s : State) (d : RowEntry) (v : Nat) : Outcome :=
  match s.rowScale d with
  | some level => compareRow d.sense (scaledBy level d.threshold) (scaledBy level d.release) v
  | none => compareRow d.sense d.threshold d.release v

/-! ### The phase machine (R60, R61) -/

/-- What a phase step is, beyond the phase it ends in: an assertion (R62), a release of the row (R61), or neither. -/
inductive RowChange where
  | none | asserted | released
  deriving DecidableEq, Repr

/-- The phase, progress count and change after a comparison (R60, R61). -/
def phaseStep (d : RowEntry) (phase : RowPhase) (progress : Nat) (o : Outcome) : RowPhase × Nat × RowChange :=
  match phase with
  | .idle =>
    if o = .crossing then (if d.qualifyCount ≤ 1 then (.asserted, 0, .asserted) else (.pending, 1, .none))
    else (.idle, 0, .none)
  | .pending =>
    if o = .crossing then
      (if d.qualifyCount ≤ progress + 1 then (.asserted, 0, .asserted) else (.pending, progress + 1, .none))
    else (.idle, 0, .none)
  | .asserted =>
    if o = .release then (if d.releaseCount ≤ 1 then (.idle, 0, .released) else (.clearing, 1, .none))
    else (.asserted, 0, .none)
  | .clearing =>
    if o = .release then
      (if d.releaseCount ≤ progress + 1 then (.idle, 0, .released) else (.clearing, progress + 1, .none))
    else (.asserted, 0, .none)

/-- The extreme value after an advance at `v` (R63). -/
def extremeAfter (sense : Sense) (old : Option Nat) (v : Nat) : Nat :=
  match old with
  | none => v
  | some w => match sense with
    | .above => max w v
    | .below => min w v

/-- The ceiling in force after an advance at `v` (R66). -/
def ceilingAfter (t : TableSet) (d : RowEntry) (q : RowRuntime) (v : Nat) : Option Nat :=
  match d.ceiling with
  | none => none
  | some (.fixed c) => if q.effective then some c else none
  | some (.curve c) =>
    if q.phase = .asserted ∨ q.phase = .clearing then (t.curve c).map fun curve => curveValue curve v
    else if q.latched then q.ceilingInForce
    else none

/-- What an assertion records (R62). -/
def RowRuntime.assert (q : RowRuntime) (d : RowEntry) (sweep : SweepNo) : RowRuntime :=
  { q with
    seen := true
    assertions := saturatingSucc 65535 q.assertions
    firstSweep := some sweep
    latched := q.latched || d.latch == .latch }

/-- A row's runtime after it advances at `v` with an outcome, and the change it made. -/
def advanceRow (t : TableSet) (sweep : SweepNo) (d : RowEntry) (q : RowRuntime) (v : Nat) (o : Outcome) :
    RowRuntime × RowChange :=
  let step := phaseStep d q.phase q.progress o
  let q := { q with extreme := some (extremeAfter d.sense q.extreme v), phase := step.1, progress := step.2.1 }
  let q := if step.2.2 = .asserted then q.assert d sweep else q
  ({ q with ceilingInForce := ceilingAfter t d q v }, step.2.2)

/-! ### The stage (R56) -/

/-- What row advance does to row `r`: its new runtime and its change; a frozen row keeps its runtime. -/
def State.rowStep (s : State) (sweep : SweepNo) (r : Nat) (q : RowRuntime) : RowRuntime × RowChange :=
  match s.activeSet.row r with
  | some d =>
    match s.advanceValue d with
    | some v => advanceRow s.activeSet sweep d q v (s.rowOutcome d v)
    | none => (q, .none)
  | none => (q, .none)

/-- The notice of an assertion or a release (R70). -/
def State.rowStepNotice (s : State) (sweep : SweepNo) (r : Nat) : Option Notice :=
  match s.activeSet.row r, s.rowRuntime r with
  | some d, some q =>
    let p := s.rowStep sweep r q
    if d.report = .alert ∧ p.2 ≠ .none then some (rowNotice r p.1.phase p.1.latched (s.advanceValue d) sweep) else none
  | _, _ => none

/-- An ARC row asserts in this evaluation's row advance (R68). -/
def State.arcAsserted (s : State) (sweep : SweepNo) (r : Nat) : Bool :=
  match s.activeSet.row r, s.rowRuntime r with
  | some d, some q => d.action == .arc && (s.rowStep sweep r q).2 == .asserted
  | _, _ => false

/-- The zones that received an arc from any ARC row, each once (R68). -/
def State.rowArcZones (s : State) (sweep : SweepNo) : List Nat :=
  (List.range s.siteRecord.zones).filter fun z => (List.range rowCount).any fun r =>
    s.arcAsserted sweep r &&
      match s.activeSet.row r with
      | some d => reaches s.activeSet s.siteRecord.zones d.scope z
      | none => false

/-- Row advance (R56): every defined row from the state in which the stage begins, then the notices in ascending row
index. The second component is the set of zones that received an arc from a row. -/
def rowStage (sweep : SweepNo) (s : State) (meanwhile : Meanwhile := undisturbed) : State × List Nat :=
  let t : State := { s with rowRuntimes := s.rowRuntimes.zipIdx.map fun (q, r) => q.map fun q => (s.rowStep sweep r q).1 }
  (t.queueEach (List.range rowCount) (s.rowStepNotice sweep) fun r => meanwhile (.advancedRow r), s.rowArcZones sweep)

end Sys2Proof.Machine
end

