-- ==== Sys2Proof/Machine/ZoneStage.lean ====
section
/-! DEFINITION. The zone stage, the fifth stage of the evaluation (chapter 7). -/

namespace Sys2Proof.Machine

/-! ### End of blanking (R128) -/

/-- A member lane in BLANK is moved to RAMP as restriking (R128). -/
def restrikeLane (l : Nat) (s : State) : State :=
  let v := s.lane l
  if v.state = .blank then s.setLane l { v with state := .ramp, restriking := true } else s

/-- A zone's blank remaining reaches 0: it enters NORMAL with a notice, and its BLANK lanes restrike. -/
def State.endBlanking (s : State) (z : Nat) (sweep : SweepNo) : State :=
  let v := { s.zone z with state := .normal, blankRemaining := 0 }
  forEach (s.activeSet.members s.siteRecord.lanes z) restrikeLane
    ((s.setZone z v).queueNotice (zoneNotice z v sweep))

/-- Step 1 on one zone: a zone in BLANK is counted down (R128). -/
def countDownZone (sweep : SweepNo) (z : Nat) (s : State) : State :=
  let v := s.zone z
  if v.state = .blank then
    if v.blankRemaining ≤ 1 then s.endBlanking z sweep
    else s.setZone z { v with blankRemaining := v.blankRemaining - 1 }
  else s

/-- Step 1 of the stage (R124): each zone below Z. -/
def blankingStep (sweep : SweepNo) (s : State) (meanwhile : Meanwhile := undisturbed) : State :=
  forEach (List.range s.siteRecord.zones) (fun z s => meanwhile (.countedZone z) (countDownZone sweep z s)) s

/-! ### Arcs (R122, R123) -/

/-- The zones below Z that an arc scope reaches (R122). -/
def arcScopeReaches (zones : Nat) (scope : ArcScope) (z : Nat) : Bool :=
  match scope with
  | .none => false
  | .zone z' => z == z' && z < zones
  | .site => z < zones

/-- The head at position `k` has a fresh record with its arc flag set. -/
def Classified.headArc (c : Classified) (k : Nat) : Bool := (c.record k).any (·.arcFlag)

/-- Zone `z` received an arc from a head flag (R122). -/
def State.headArcReaches (s : State) (c : Classified) (z : Nat) : Bool :=
  (List.range headCount).any fun k => c.headArc k &&
    match s.activeSet.head k with
    | some e => arcScopeReaches s.siteRecord.zones e.arcScope z
    | none => false

/-- The zones that received an arc from head flags, each once. -/
def State.headArcZones (s : State) (c : Classified) : List Nat :=
  (List.range s.siteRecord.zones).filter (s.headArcReaches c)

/-- The count of fresh records whose arc flag is set, whatever their arc scope (R122). -/
def Classified.arcFlagCount (c : Classified) : Nat := ((List.range headCount).filter c.headArc).length

/-! ### Judging an arc (R125 to R129) -/

/-- A history without the entries that have left the arc window (R125). -/
def pruneHistory (window : Nat) (sweep : SweepNo) (history : List SweepNo) : List SweepNo :=
  history.filter fun e => !outOfWindow window sweep e

/-- A zone's ARC row is one whose scope is the zone, or a lane the zone plan places in it (R69). -/
def returnedByBlank (t : TableSet) (lanes z : Nat) (d : RowEntry) : Bool :=
  d.action == .arc &&
    match d.scope with
    | .zone z' => z == z'
    | .lane l => t.isMember lanes z l
    | .site => false

/-- A blank entry returns an ARC row of the zone to IDLE, with a release notice when it was effective (R69). -/
def returnArcRow (z : Nat) (sweep : SweepNo) (r : Nat) (s : State) : State :=
  match s.activeSet.row r, s.rowRuntime r with
  | some d, some q =>
    if returnedByBlank s.activeSet s.siteRecord.lanes z d then
      let t := s.setRow r { q with phase := .idle, progress := 0 }
      if (q.phase = .asserted ∨ q.phase = .clearing) ∧ d.report = .alert then
        t.queueNotice (rowNotice r .idle q.latched (s.pointOrNone d.source).value sweep)
      else t
    else s
  | _, _ => s

/-- Lane `l` was in state `st` when the fifth stage began, and a blank entry has moved it: step 2 judges it from `st`
(R82). -/
def State.noteMoved (s : State) (l : Nat) (st : LaneState) : State :=
  { s with evaluation := s.evaluation.map fun e => { e with movedFrom := e.movedFrom.set l (some st) } }

/-- A zone's entry into BLANK moves a member lane in neither OFF nor LOCKOUT to BLANK (R113, R127). Its probe, which step 2
abandons whatever it settles (R107), is owed from then on. A restriking lane, in BLANK when the stage began, loses the mark
(R128). DESIGN CHOICE (log entry 34): the lane stands in BLANK from this entry on, and step 2 alone judges it from the state
before the move. -/
def blankLane (l : Nat) (s : State) : State :=
  let v := s.lane l
  if v.state = .off ∨ v.state = .lockout then s
  else
    (s.setLane l { v.abandonProbe with state := .blank, restriking := false }).noteMoved l
      (if v.restriking then .blank else v.state)

/-- A zone enters BLANK (R127): its notice, its member lanes (log entry 34), and its ARC rows (R69). DESIGN CHOICE (log entry
38): the release notices of several ARC rows that one entry returns join the queue in ascending row index. -/
def State.enterBlank (s : State) (z : Nat) (history : List SweepNo) (sweep : SweepNo)
    (meanwhile : Meanwhile := undisturbed) : State :=
  let v : Zone := { state := .blank, blankRemaining := s.activeSet.parameters.blankingCount, arcHistory := history }
  let s := (s.setZone z v).queueNotice (zoneNotice z v sweep)
  let s := meanwhile (.judgedZone z) (forEach (s.activeSet.members s.siteRecord.lanes z) blankLane s)
  forEach (List.range rowCount) (fun r s => meanwhile (.returnedRow z r) (returnArcRow z sweep r s)) s

/-- A zone enters LOCKOUT (R129). -/
def State.enterLockout (s : State) (z : Nat) (history : List SweepNo) (sweep : SweepNo) : State :=
  let v : Zone := { state := .lockout, blankRemaining := 0, arcHistory := history }
  (s.setZone z v).queueNotice (zoneNotice z v sweep)

/-- Step 3 on one zone: pruning, then the arc's judgement by the zone's state (R125, R126). -/
def judgeZone (sweep : SweepNo) (arcs : List Nat) (z : Nat) (s : State) (meanwhile : Meanwhile := undisturbed) : State :=
  let v := s.zone z
  let history := pruneHistory s.activeSet.parameters.arcWindow sweep v.arcHistory
  if arcs.contains z ∧ v.state = .normal then
    let history := history ++ [sweep]
    if s.activeSet.parameters.arcLimit ≤ history.length then meanwhile (.judgedZone z) (s.enterLockout z history sweep)
    else s.enterBlank z history sweep meanwhile
  else meanwhile (.judgedZone z) (s.setZone z { v with arcHistory := history })

/-! ### The arc line (R130 to R132) -/

/-- This evaluation may resolve ARC_LINE (R130). -/
def State.resolvesArcLine (s : State) (c : Classified) : Bool :=
  s.forceArcLine && c.valid && atOrAfter c.sweep s.resolvingSweep

/-- The notice of a spurious resolution (R131). -/
def spuriousNotice (c : Classified) : Notice :=
  { subject := .spuriousArc, state := .spurious, value := .number c.arcFlagCount, sweep := c.sweep, changes := 1 }

/-- A resolution that finds ARC_N low raises ARC_LINE_STUCK and sets the mask flag (R132). -/
def State.sampleArcLine (s : State) (sweep : SweepNo) : State :=
  if s.arcLow then
    { s with arcMasked := true }.queueNotice (conditionNotice .arcLineStuck true .none sweep)
  else s

/-- The removal of ARC_LINE is decided; it takes effect when the evaluation completes (R133). -/
def State.decideRemoval (s : State) : State :=
  { s with evaluation := s.evaluation.map fun e => { e with removalDecided := true } }

/-- Step 4: ARC_LINE is resolved as CONFIRMED or SPURIOUS_ARC (R131). -/
def resolveArcLine (c : Classified) (headZones : List Nat) (s : State) (meanwhile : Meanwhile := undisturbed) : State :=
  if s.resolvesArcLine c then
    let s := meanwhile .arcSampled (s.sampleArcLine c.sweep).decideRemoval
    if headZones.isEmpty then s.queueNotice (spuriousNotice c) else s
  else s

/-- Steps 2 to 4 of the stage (R124). -/
def arcSteps (c : Classified) (rowZones : List Nat) (s : State) (meanwhile : Meanwhile := undisturbed) : State :=
  let headZones := s.headArcZones c
  let arcs := (List.range s.siteRecord.zones).filter fun z => headZones.contains z || rowZones.contains z
  let s := forEach (List.range s.siteRecord.zones) (fun z s => judgeZone c.sweep arcs z s meanwhile) s
  resolveArcLine c headZones (meanwhile .arcsJudged s) meanwhile

end Sys2Proof.Machine
end

