-- ==== Sys2Proof/Machine/Evaluation.lean ====
section
/-! DEFINITION. The evaluation: its seven stages in order (R27, 00_scope), the events that other blocks take while it
runs, its completion (R133), snapshots (R176), and the sweep closes that start it (R17, R24 to R26). -/

namespace Sys2Proof.Machine

/-! ### Snapshots, the seventh stage (R176) -/

/-- A point's measurement as a snapshot shows it. -/
def State.measurement (s : State) (i : Nat) : Measurement :=
  { value := (s.pointOrNone i).value, state := (s.pointOrNone i).state }

/-- The ratio point that lane `l`'s plan names. -/
def State.ratioPointOf (s : State) (l : Nat) : Option Nat := (s.activeSet.plan l).bind (·.ratioPoint)

/-- The FWD point that lane `l`'s ratio point names as its forward point. -/
def State.forwardPointOf (s : State) (l : Nat) : Option Nat :=
  match (s.ratioPointOf l).bind s.activeSet.point with
  | some { source := .ratio f _, .. } => some f
  | _ => none

/-- Lane `l` of a snapshot; a lane at or above L is shown OFF with A = 0 and no measurements. -/
def State.snapshotLane (s : State) (l : Nat) : SnapshotLane :=
  if l < s.siteRecord.lanes then
    { state := (s.lane l).state, applied := (s.lane l).applied
      forward := (s.forwardPointOf l).map s.measurement, ratio := (s.ratioPointOf l).map s.measurement }
  else { state := .off, applied := 0, forward := none, ratio := none }

/-- A snapshot is built into the slot and the count is set to 0. -/
def State.buildSnapshot (s : State) (sweep : SweepNo) : State :=
  { s with
    snapshot := some { sweep, lanes := (List.range laneCount).map s.snapshotLane }
    snapshotCount := 0 }

/-- The seventh stage: the snapshot count against the snapshot interval. -/
def snapshotStage (sweep : SweepNo) (s : State) : State :=
  let interval := s.activeSet.parameters.snapshotInterval
  if interval = 0 then { s with snapshotCount := 0 }
  else if interval ≤ s.snapshotCount + 1 then s.buildSnapshot sweep
  else { s with snapshotCount := s.snapshotCount + 1 }

/-! ### Events during an evaluation (R27) -/

/-- A return that finds no sweep in flight is LATE (R25). -/
def State.countLate (s : State) : State :=
  { s with sweepStatistics := { s.sweepStatistics with late := saturatingSucc greatest32 s.sweepStatistics.late } }

/-- The effect of an event that a block takes while an evaluation is in progress. No sweep is then in flight, so a return
is LATE (R27). -/
def midEvent : MidEvent → State → State
  | .openingMark => State.findMark
  | .goodFrame f => fun s => s.goodFrame f
  | .badFrame => State.badFrame
  | .missingMark => State.missMark
  | .lanePortBoundary => State.lanePortBoundary
  | .returnBoundary => State.returnBoundary
  | .inhibitFall => State.inhibitFall
  | .inhibitRise => State.inhibitRise
  | .arcFall => State.arcFall
  | .arcRise => State.arcRise
  | .loopReturn _ => State.countLate

/-- The events that stand at one place of the evaluation, in order. -/
def eventsAt (during : During) : Meanwhile := fun p s =>
  ((during.filter fun e => e.1 == p).map fun e => e.2).foldl (fun s e => midEvent e s) s

/-! ### The evaluation -/

/-- An evaluation begins: it is in progress, and step 7 will compare with the lane states of this moment (R116). DESIGN
CHOICE (log entry 33): it is the most recent evaluation from this moment on, so a notice that a pin or link event queues
while it is in progress carries its sweep number, and a lane the event mutes takes it as its entry sweep. -/
def State.beginEvaluation (s : State) (sweep : SweepNo) : State :=
  { s with
    lastEvaluation := sweep
    evaluation := some
      { removalDecided := false, startStates := s.lanes.map (·.state), mutedSince := List.replicate laneCount false
        movedFrom := List.replicate laneCount none } }

/-- Stages 1 and 2, then the re-marking of R30. -/
def openingStages (sweep : SweepNo) (records : Option (List HeadRecord)) (meanwhile : Meanwhile) (s : State) :
    State × Classified :=
  let p := classify sweep records (meanwhile .begun (s.beginEvaluation sweep)) meanwhile
  let q := activationStage sweep (meanwhile .classification p.1) meanwhile
  (meanwhile .activation q.1, p.2.remark q.2)

/-- Stages 3 to 5. -/
def measuringStages (c : Classified) (meanwhile : Meanwhile) (s : State) : State :=
  let p := rowStage c.sweep (meanwhile .pointUpdate (pointStage c s)) meanwhile
  let s := blankingStep c.sweep (meanwhile .rowAdvance p.1) meanwhile
  meanwhile .zoneStage (arcSteps c p.2 (meanwhile .blankingEnds s) meanwhile)

/-- Stages 6 and 7. -/
def handlingStages (sweep : SweepNo) (meanwhile : Meanwhile) (s : State) : State :=
  let p := settleStage s meanwhile
  let s := completeStage sweep p.2 (meanwhile .settling p.1) meanwhile
  meanwhile .snapshotCount (snapshotStage sweep s)

/-- The seven stages of the evaluation of a closed sweep. The records are those of a valid sweep, none for a failed one.
The evaluation is still in progress afterwards. -/
def State.evaluate (s : State) (sweep : SweepNo) (records : Option (List HeadRecord)) (during : During) : State :=
  let p := openingStages sweep records (eventsAt during) s
  handlingStages sweep (eventsAt during) (measuringStages p.2 (eventsAt during) p.1)

/-! ### Completion (R133, R168) -/

/-- A decided removal of ARC_LINE takes effect: the line is kept when it is low again and unmasked. -/
def State.removeArcLine (s : State) : State :=
  if s.arcLow && !s.arcMasked then { s with resolvingSweep := s.sweepNumber + 1 } else { s with forceArcLine := false }

/-- The evaluation in progress is complete: the decided removal takes effect. -/
def State.endEvaluation (s : State) : State :=
  match s.evaluation with
  | some e =>
    let s := { s with evaluation := none }
    if e.removalDecided then s.removeArcLine else s
  | none => s

/-- An evaluation completes and the commands held for it are taken. -/
def State.completeEvaluation (s : State) : State :=
  if s.evaluating then s.endEvaluation.drainCommands else s

/-! ### Sweep closes (R17, R24 to R26) -/

/-- The statistic of a failed sweep's class rises. -/
def State.countFailure (s : State) : Judgement → State
  | .frameCheck =>
    { s with sweepStatistics :=
        { s.sweepStatistics with frameChecks := saturatingSucc greatest32 s.sweepStatistics.frameChecks } }
  | .headerMismatch =>
    { s with sweepStatistics :=
        { s.sweepStatistics with headerMismatches := saturatingSucc greatest32 s.sweepStatistics.headerMismatches } }
  | .countMismatch =>
    { s with sweepStatistics :=
        { s.sweepStatistics with countMismatches := saturatingSucc greatest32 s.sweepStatistics.countMismatches } }
  | .late => s.countLate
  | .valid _ => s

/-- The sweep in flight closes. -/
def State.closeSweep (s : State) : State := { s with inFlight := none }

/-- A return on the sense loop (R24, R25): LATE, or a close and its evaluation, which is then in progress. -/
def State.takeReturn (s : State) (ws : List Word) (during : During) : State :=
  match s.inFlight with
  | none => s.countLate
  | some f =>
    let j := judgeReturn f ws
    match j with
    | .late => s.countLate
    | .valid records => s.closeSweep.evaluate f.sweep (some records) during
    | _ => (s.countFailure j).closeSweep.evaluate f.sweep none during

/-- The TIMEOUT statistic rises (R26). -/
def State.countTimeout (s : State) : State :=
  { s with sweepStatistics :=
      { s.sweepStatistics with timeouts := saturatingSucc greatest32 s.sweepStatistics.timeouts } }

/-- A tick begins its interval with the period of this moment (R17). -/
def State.beginInterval (s : State) : State := { s with intervalPeriod := s.siteRecord.sweepPeriod }

/-- A sweep-period tick (R17, R26): it launches, or first times out the sweep in flight, evaluates it, and launches when
that evaluation is complete; the commands held are then taken (log entry 6). An evaluation still in progress completes
before the tick (R27). -/
def State.tick (s : State) (during : During) : State :=
  let s := s.completeEvaluation.beginInterval
  match s.inFlight with
  | none => s.launch
  | some f => ((s.countTimeout.closeSweep.evaluate f.sweep none during).endEvaluation.launch).drainCommands

/-! ### The evaluation's own events, each as one step -/

/-- An activation that waits is abandoned by the deferral that brings its count to 1024 (R158). The command behind it
reaches the head, and is taken at once when no evaluation is in progress (R168; log entry 8). -/
def State.abandonIfDue (s : State) : State :=
  match s.waiting, s.blocking with
  | some w, some b => if deferralLimit ≤ w.deferrals + 1 then (s.abandonActivation b).drainCommands else s
  | _, _ => s

/-- A change of lane `l` from `old` that an event made: its entry sweep and its notice (R98, R116). -/
def State.noteLaneChange (s : State) (l : Nat) (old : LaneState) : State :=
  let v := s.lane l
  if old = v.state then s
  else
    let v := { v with stateEntrySweep := s.lastEvaluation }
    (s.setLane l v).queueNotice? (laneChangeNotice l old v)

/-- The end of zone `z`'s blanking as one event: the zone enters NORMAL, its BLANK lanes restrike, and each change of a
lane is noted (R128, R134, R116). -/
def State.endBlankingIfDue (s : State) (z : Nat) : State :=
  let v := s.zone z
  if z < s.siteRecord.zones ∧ v.state = .blank ∧ v.blankRemaining ≤ 1 then
    let t := s.endBlanking z s.lastEvaluation
    forEach (s.activeSet.members s.siteRecord.lanes z) (fun l t => t.noteLaneChange l (s.lane l).state) t
  else s

/-- The judgement of lane `l`'s probe as one event, when its count reaches 0 (R105, R106). A lane it locks out is silent
at once. -/
def State.judgeProbeIfDue (s : State) (l : Nat) : State :=
  let v := s.lane l
  if l < s.siteRecord.lanes ∧ v.state = .probe ∧ v.probeRemaining ≤ 1 then
    let w := v.judgeProbe s.probeRules (s.situation l).passed
    s.changeLane l (if w.state = .lockout then { w with target := 0, applied := 0 } else w)
  else s

/-- A snapshot as one event, when the count reaches the interval (R176). -/
def State.snapshotIfDue (s : State) : State :=
  let interval := s.activeSet.parameters.snapshotInterval
  if 0 < interval ∧ interval ≤ s.snapshotCount + 1 then s.buildSnapshot s.lastEvaluation else s

end Sys2Proof.Machine
end

