-- ==== Sys2Proof/Machine/SweepCommands.lean ====
section
/-! DEFINITION. The meanings of the sweep commands, and of the evaluation's own events as single steps. -/

namespace Sys2Proof.Machine

/-- SWEEP_TICK (R17). -/
def execSweepTick (during : During) (s : State) : Host.Outcome State Fault Refusal :=
  .next (s.unlessReset fun s => s.tick during)

/-- SWEEP_RETURN (R24): the words that follow the opening mark. -/
def execSweepReturn (words : List Word) (during : During) (s : State) : Host.Outcome State Fault Refusal :=
  .next (s.unlessReset fun s => s.takeReturn words during)

/-- ACTIVATION_ABANDON (R158). -/
def execActivationAbandon (s : State) : Host.Outcome State Fault Refusal :=
  .next (s.unlessReset State.abandonIfDue)

/-- BLANKING_END (R128). -/
def execBlankingEnd (zone : BitVec 3) (s : State) : Host.Outcome State Fault Refusal :=
  .next (s.unlessReset fun s => s.endBlankingIfDue zone.toNat)

/-- PROBE_JUDGEMENT (R105). -/
def execProbeJudgement (lane : BitVec 3) (s : State) : Host.Outcome State Fault Refusal :=
  .next (s.unlessReset fun s => s.judgeProbeIfDue lane.toNat)

/-- SNAPSHOT_BUILD (R176). -/
def execSnapshotBuild (s : State) : Host.Outcome State Fault Refusal := .next (s.unlessReset State.snapshotIfDue)

/-- EVALUATION_COMPLETE (R133). -/
def execEvaluationComplete (s : State) : Host.Outcome State Fault Refusal :=
  .next (s.unlessReset State.completeEvaluation)

end Sys2Proof.Machine
end

