-- ==== Sys2Proof/Machine/SystemCommands.lean ====
section
/-! DEFINITION. The meanings of ACTIVATE, SITE, the LANE requests, CLEAR, RESTART and an unknown command. -/

namespace Sys2Proof.Machine

/-- ACTIVATE (R155). -/
def execActivate (tag : Tag) (s : State) : Host.Outcome State Fault Refusal := .next (s.arrive tag [3])

/-- SITE (R161). -/
def execSite (tag : Tag) (lanes zones heads period failLimit ratioFloor maxHigh maxLow : Word) (s : State) :
    Host.Outcome State Fault Refusal :=
  .next (s.arrive tag [4, lanes, zones, heads, period, failLimit, ratioFloor, maxHigh, maxLow])

/-- LANE_ON (R101): a LANE command that requests on and leaves the rest unchanged. -/
def execLaneOn (tag : Tag) (lane : Word) (s : State) : Host.Outcome State Fault Refusal :=
  .next (s.arrive tag [5, lane, 1, 0, 0, 0])

/-- LANE_OFF (R103): a LANE command that requests off and leaves the rest unchanged. -/
def execLaneOff (tag : Tag) (lane : Word) (s : State) : Host.Outcome State Fault Refusal :=
  .next (s.arrive tag [5, lane, 2, 0, 0, 0])

/-- LANE_MODE (R96): a LANE command that requests a mode by its code and leaves the rest unchanged. -/
def execLaneMode (tag : Tag) (lane mode : Word) (s : State) : Host.Outcome State Fault Refusal :=
  .next (s.arrive tag [5, lane, 0, mode, 0, 0])

/-- LANE_SETPOINT (R97): a LANE command that gives a setpoint and leaves the rest unchanged. -/
def execLaneSetpoint (tag : Tag) (lane setpoint : Word) (s : State) : Host.Outcome State Fault Refusal :=
  .next (s.arrive tag [5, lane, 0, 0, 1, setpoint])

/-- CLEAR (R171). -/
def execClear (tag : Tag) (seenOption rows0 rows1 rows2 rows3 lanes zones : Word) (s : State) :
    Host.Outcome State Fault Refusal :=
  .next (s.arrive tag [6, seenOption, rows0, rows1, rows2, rows3, lanes, zones])

/-- RESTART (R172). -/
def execRestart (tag : Tag) (s : State) : Host.Outcome State Fault Refusal := .next (s.arrive tag [8])

/-- A command whose kind code is not one of the eight (R169). -/
def execUnknown (tag : Tag) (kind : Word) (arguments : List Word) (s : State) : Host.Outcome State Fault Refusal :=
  .next (s.arrive tag (kind :: arguments))

end Sys2Proof.Machine
end

