-- ==== Sys2Proof/Machine/Dispatch.lean ====
section
/-! DEFINITION. The meaning of every command: one arm per constructor of Instr, one direct call each. -/

namespace Sys2Proof.Machine

def exec (i : Instr) (s : State) : Host.Outcome State Fault Refusal :=
  match i with
  | .openingMarkFound => Sys2Proof.Machine.execOpeningMarkFound s
  | .goodFrameAligned frame => Sys2Proof.Machine.execGoodFrameAligned frame s
  | .badCheckFrame => Sys2Proof.Machine.execBadCheckFrame s
  | .missingOpeningMark => Sys2Proof.Machine.execMissingOpeningMark s
  | .driveFrame lane hold low sequence samples => Sys2Proof.Machine.execDriveFrame lane hold low sequence samples s
  | .commandFrame hold tag payload => Sys2Proof.Machine.execCommandFrame hold tag payload s
  | .fillerFrame hold => Sys2Proof.Machine.execFillerFrame hold s
  | .lanePortFrameBoundary => Sys2Proof.Machine.execLanePortFrameBoundary s
  | .returnFrameBoundary => Sys2Proof.Machine.execReturnFrameBoundary s
  | .inhibitNAssert => Sys2Proof.Machine.execInhibitNAssert s
  | .inhibitNDeassert => Sys2Proof.Machine.execInhibitNDeassert s
  | .arcNFall => Sys2Proof.Machine.execArcNFall s
  | .arcNRise => Sys2Proof.Machine.execArcNRise s
  | .resetNAssert => Sys2Proof.Machine.execResetNAssert s
  | .resetNRelease probePolHigh => Sys2Proof.Machine.execResetNRelease probePolHigh s
  | .sweepTick during => Sys2Proof.Machine.execSweepTick during s
  | .sweepReturn words during => Sys2Proof.Machine.execSweepReturn words during s
  | .activationAbandon => Sys2Proof.Machine.execActivationAbandon s
  | .blankingEnd zone => Sys2Proof.Machine.execBlankingEnd zone s
  | .probeJudgement lane => Sys2Proof.Machine.execProbeJudgement lane s
  | .snapshotBuild => Sys2Proof.Machine.execSnapshotBuild s
  | .evaluationComplete => Sys2Proof.Machine.execEvaluationComplete s
  | .loadPoint tag index definedWord fields => Sys2Proof.Machine.execLoadPoint tag index definedWord fields s
  | .loadHead tag index definedWord fields => Sys2Proof.Machine.execLoadHead tag index definedWord fields s
  | .loadCurve tag index definedWord fields => Sys2Proof.Machine.execLoadCurve tag index definedWord fields s
  | .loadCondition tag index definedWord fields => Sys2Proof.Machine.execLoadCondition tag index definedWord fields s
  | .loadZonePlan tag index definedWord fields => Sys2Proof.Machine.execLoadZonePlan tag index definedWord fields s
  | .loadLanePlan tag index definedWord fields => Sys2Proof.Machine.execLoadLanePlan tag index definedWord fields s
  | .loadParameters tag index definedWord fields => Sys2Proof.Machine.execLoadParameters tag index definedWord fields s
  | .discard tag => Sys2Proof.Machine.execDiscard tag s
  | .activate tag => Sys2Proof.Machine.execActivate tag s
  | .site tag lanes zones heads period failLimit ratioFloor maxHigh maxLow => Sys2Proof.Machine.execSite tag lanes zones heads period failLimit ratioFloor maxHigh maxLow s
  | .laneOn tag lane => Sys2Proof.Machine.execLaneOn tag lane s
  | .laneOff tag lane => Sys2Proof.Machine.execLaneOff tag lane s
  | .laneMode tag lane mode => Sys2Proof.Machine.execLaneMode tag lane mode s
  | .laneSetpoint tag lane setpoint => Sys2Proof.Machine.execLaneSetpoint tag lane setpoint s
  | .clear tag seenOption rows0 rows1 rows2 rows3 lanes zones => Sys2Proof.Machine.execClear tag seenOption rows0 rows1 rows2 rows3 lanes zones s
  | .readLane tag index => Sys2Proof.Machine.execReadLane tag index s
  | .readZone tag index => Sys2Proof.Machine.execReadZone tag index s
  | .readRow tag index => Sys2Proof.Machine.execReadRow tag index s
  | .readPoint tag index => Sys2Proof.Machine.execReadPoint tag index s
  | .readCurve tag index => Sys2Proof.Machine.execReadCurve tag index s
  | .readHead tag index => Sys2Proof.Machine.execReadHead tag index s
  | .readSiteRecord tag => Sys2Proof.Machine.execReadSiteRecord tag s
  | .readParameters tag => Sys2Proof.Machine.execReadParameters tag s
  | .readPendingEntry tag index part => Sys2Proof.Machine.execReadPendingEntry tag index part s
  | .readLinkStatistics tag => Sys2Proof.Machine.execReadLinkStatistics tag s
  | .readSweepStatistics tag => Sys2Proof.Machine.execReadSweepStatistics tag s
  | .readAlertSet tag => Sys2Proof.Machine.execReadAlertSet tag s
  | .restart tag => Sys2Proof.Machine.execRestart tag s
  | .unknown tag kind arguments => Sys2Proof.Machine.execUnknown tag kind arguments s

end Sys2Proof.Machine
end

