-- ==== Sys2Proof/Machine/Head.lean ====
section
/-! DEFINITION. The detector head as far as the 7210 depends on it (R20 to R22). Heads are companion parts outside the
7210, so no field of State holds one (log entry 15); these are pure functions from what reaches a head to what it sends
on, against which the reading of a return is stated. -/

namespace Sys2Proof.Machine

/-- What a head keeps from frame to frame (R20 to R22). -/
structure Head where
  id : BitVec 4
  mode : HeadMode
  quadInput : BitVec 2
  arcFlag : Bool
  deriving DecidableEq, Repr

/-- What a head measured for one record (R21). -/
structure Sampling where
  r0 : Word
  r1 : Word
  r2 : Word
  r3 : Word
  overRange : BitVec 4
  noise : Bool
  deriving DecidableEq, Repr

/-- A head that powers up takes SPREAD mode with quad input 0 (R20). DESIGN CHOICE (log entry 31): its arc flag is clear,
which no rule states. -/
def Head.powerUp (id : BitVec 4) : Head := { id, mode := .spread, quadInput := 0, arcFlag := false }

/-- The arc sensor detects an arc: the flag latches (R22). -/
def Head.senseArc (h : Head) : Head := { h with arcFlag := true }

/-- The identity word of the record a head emits (R21, section 11.5). -/
def Head.identity (h : Head) (x : Sampling) : Word :=
  (3 : BitVec 3) ++ h.id ++ BitVec.ofBool (h.mode == .quad) ++ h.quadInput ++ BitVec.ofBool h.arcFlag ++
    BitVec.ofBool x.noise ++ x.overRange

/-- The record a head emits, with its record check (R21, R179). -/
def Head.record (h : Head) (x : Sampling) : HeadRecord :=
  { identity := h.identity x, r0 := x.r0, r1 := x.r1, r2 := x.r2, r3 := x.r3
    check := crc [h.identity x, x.r0, x.r1, x.r2, x.r3] }

/-- A record as its six words. -/
def HeadRecord.words (r : HeadRecord) : List Word := [r.identity, r.r0, r.r1, r.r2, r.r3, r.check]

/-- A head reads a slot word: SET_MODE gives its next mode, NOP and the codes 2 and 3 keep it (R20, R180). -/
def Head.readSlot (h : Head) (w : Word) : Head :=
  if w.extractLsb' 14 2 = 1 then
    { h with mode := if w.getLsbD 8 then .quad else .spread, quadInput := w.extractLsb' 0 2 }
  else h

/-- The records ahead of header A and the words from header A on; none when header A does not follow the records. -/
def splitRecords : List Word → Option (List Word × List Word)
  | [] => none
  | w :: rest =>
    if isHeaderStart w then some ([], w :: rest)
    else if isRecordStart w then
      match rest with
      | a :: b :: c :: d :: e :: rest =>
        (splitRecords rest).map fun p => (w :: a :: b :: c :: d :: e :: p.1, p.2)
      | _ => none
    else none

/-- The slot that a head at position `k` reads: none at or beyond the chain length in header A (R20). -/
def slotWord (k : Nat) (tail : List Word) : Option Word :=
  if k < ((tail.getD 0 0).extractLsb' 0 4).toNat + 1 then tail[2 + k]? else none

/-- A frame passes a head (R20, R22): the words after the opening mark as the head sends them on, and the head
afterwards. A frame whose header A does not follow its records goes on as it came. DESIGN CHOICE (log entry 30): a head
that loses the frame after header A has reached it has emitted its record by then (step 1 of R20), and the record stays in
what it sends on, where R20's last sentence has a head that loses the frame partway add nothing. -/
def Head.pass (h : Head) (x : Sampling) (ws : List Word) : List Word × Head :=
  match splitRecords ws with
  | none => (ws, h)
  | some (records, tail) =>
    let next := { h with arcFlag := false }
    (records ++ (h.record x).words ++ tail,
      match slotWord (records.length / 6) tail with
      | some w => next.readSlot w
      | none => next)

/-- A frame passes the heads of a chain in turn; the words that reach the loop input. -/
def passChain : List (Head × Sampling) → List Word → List Word
  | [], ws => ws
  | p :: rest, ws => passChain rest (p.1.pass p.2 ws).1

end Sys2Proof.Machine
end

