-- ==== Sys2Proof/Safety.lean ====
section
/-! DEFINITION. What claims about the machine are stated in: when a command is carried out at once, how its reply shows,
and the conditions that every step keeps. -/

namespace Sys2Proof.Machine

/-! ### Commands that are carried out at once (R166, R168) -/

/-- A command that arrives now is kept and taken at once: the part is out of reset, no evaluation is in progress, no
activation waits, no other command waits, and a place is free. -/
def State.Ready (s : State) : Prop :=
  s.inReset = false ∧ s.evaluation = none ∧ s.waiting = none ∧ s.commands = [] ∧ s.replies.length < commandPlaces

/-- The state with one more reply at the end of the reply queue (R168). -/
def State.answer (s : State) (tag : Tag) (kind : Word) (result : ReplyResult) (data : ReplyData) : State :=
  { s with replies := s.replies ++ [{ tag, kind, result, data }] }

/-! ### What a claim says of a group of fields -/

/-- The steps common to every taken frame: frames taken rises, the report hold is the frame's, and the bad-frame count is
0 (R1, R2, R11, R14). -/
def State.withTakenFrame (s : State) (hold : Bool) : State :=
  { s with
    badFrames := 0
    reportHold := hold
    linkStatistics := { s.linkStatistics with framesTaken := min 4294967295 (s.linkStatistics.framesTaken + 1) } }

/-- A refusal record that holds one refused tag (R167). -/
def Refused.one (tag : Tag) (ahead : Nat) : Refused :=
  { firstTag := tag, tags := (1 : BitVec 256) <<< tag.toNat, count := 1, ahead }

/-- One more check failure (R14). -/
def State.withCheckFailure (s : State) : State :=
  { s with linkStatistics :=
      { s.linkStatistics with checkFailures := min 4294967295 (s.linkStatistics.checkFailures + 1) } }

/-- The lane port's filler frame (R7). -/
def portFiller : Frame :=
  { header := 0, word2 := 0, payload := List.replicate 64 0, check := crc (0 :: 0 :: List.replicate 64 0) }

/-- The return frame that carries a payload under a header, with the site summary in word 2 (R13). -/
def State.sendsReturn (s t : State) (header : Word) (payload : List Word) : Host.Outcome State Fault Refusal :=
  .next { t with
    returnPort := some { header, word2 := s.siteSummary, payload, check := crc (header :: s.siteSummary :: payload) }
    draws := s.draws + 1 }

/-- A lane in a state that an INHIBIT or LINK_LOSS event mutes at once (R110). -/
def State.Mutes (s : State) (l : Nat) : Prop :=
  (s.lane l).state = .probe ∨ (s.lane l).state = .ramp ∨ (s.lane l).state = .on ∨ (s.lane l).state = .blank

/-- The state with a list of notices queued, in its order (R174). -/
def State.queuing (s : State) (notices : List Notice) : State := notices.foldl State.queueNotice s

/-- `t` holds the notice queue of `q`, with its flag and its count. -/
def State.NoticesOf (t q : State) : Prop :=
  t.notices = q.notices ∧ t.noticesDropped = q.noticesDropped ∧ t.droppedCount = q.droppedCount

/-- The lanes of `t` are those of `s` after INHIBIT or LINK_LOSS joined the mute causes (R110): each lane in PROBE,
RAMP, ON or BLANK is MUTED with T = A = 0 and multiplier 0, an unjudged probe is owed, no lane restrikes, and every other
lane is as it was. Each lane that enters MUTED queues its notice (R116), in ascending lane number by log entry 35. An
evaluation in progress notes for each that step 7 compares with MUTED, that the event's scales stand, and that step 2 judges
it from MUTED (R82, R116). -/
def State.LanesMuted (s t : State) : Prop :=
  (∀ l, l < laneCount →
    (s.Mutes l →
      t.lane l = { s.lane l with
        state := .muted, target := 0, applied := 0
        probeOwed := (s.lane l).probeOwed || (s.lane l).state == .probe
        probeRemaining := if (s.lane l).state = .probe then 0 else (s.lane l).probeRemaining
        restriking := false, stateEntrySweep := s.lastEvaluation } ∧
      t.multiplier l = 0) ∧
    (¬ s.Mutes l → t.lane l = s.lane l ∧ t.multiplier l = s.multiplier l)) ∧
  (∀ muted : List Nat, muted.Pairwise (· < ·) → (∀ l, l ∈ muted ↔ l < laneCount ∧ s.Mutes l) →
    t.NoticesOf (s.queuing (muted.map fun l =>
      { subject := .lane l, state := .lane .muted, value := .number 0, sweep := s.lastEvaluation, changes := 1 }))) ∧
  (s.evaluation = none → t.evaluation = none) ∧
  ∀ e, s.evaluation = some e → ∃ e', t.evaluation = some e' ∧ e'.removalDecided = e.removalDecided ∧
    ∀ l, l < laneCount →
      (s.Mutes l →
        (l < e.startStates.length → e'.startStates.getD l .off = .muted) ∧
        (l < e.mutedSince.length → e'.mutedSince.getD l false = true) ∧ e'.movedFrom.getD l none = none) ∧
      (¬ s.Mutes l →
        e'.startStates.getD l .off = e.startStates.getD l .off ∧
        e'.mutedSince.getD l false = e.mutedSince.getD l false ∧
        e'.movedFrom.getD l none = e.movedFrom.getD l none)

/-- `t` differs from `s` at most in the lanes, the multipliers, the notice queue with its flag and count, and what an
evaluation in progress notes of muted lanes. -/
def State.OnlyLanesAndNotices (s t : State) : Prop :=
  t = { s with
    lanes := t.lanes, multipliers := t.multipliers, notices := t.notices, noticesDropped := t.noticesDropped
    droppedCount := t.droppedCount, evaluation := t.evaluation }

/-- The state after the seven stages of the evaluation of one sweep, in their order and with no event meanwhile, from the
moment the evaluation begins: sense classification, activation, point update, row advance, the zone stage, lane handling,
the snapshot count (R27, 00_scope). The records are those of a valid sweep, none for a failed one. -/
def State.sevenStages (s : State) (sweep : SweepNo) (records : Option (List HeadRecord)) : State :=
  let begun : State := { s with
    lastEvaluation := sweep
    evaluation := some
      { removalDecided := false, startStates := s.lanes.map (·.state), mutedSince := List.replicate 8 false
        movedFrom := List.replicate 8 none } }
  let sensed := classify sweep records begun
  let active := activationStage sweep sensed.1
  let judged : Classified := sensed.2.remark active.2
  let rows := rowStage sweep (pointStage judged active.1)
  let zones := arcSteps judged rows.2 (blankingStep sweep rows.1)
  let settled := settleStage zones
  snapshotStage sweep (completeStage sweep settled.2 settled.1)

/-- The row of the table that brings an event at any other time than during an evaluation (R27). -/
def eventRow : MidEvent → Instr
  | .openingMark => .openingMarkFound
  | .goodFrame f => .goodFrameAligned f
  | .badFrame => .badCheckFrame
  | .missingMark => .missingOpeningMark
  | .lanePortBoundary => .lanePortFrameBoundary
  | .returnBoundary => .returnFrameBoundary
  | .inhibitFall => .inhibitNAssert
  | .inhibitRise => .inhibitNDeassert
  | .arcFall => .arcNFall
  | .arcRise => .arcNRise
  | .loopReturn words => .sweepReturn words []

/-- `t` has lane `l` as `v`, with its multiplier, and every other lane and multiplier as in `s`. -/
def State.OneLane (s t : State) (l : Nat) (v : Lane) : Prop :=
  t.lanes = s.lanes.set l v ∧ t.multipliers = s.multipliers.set l (multiplierOf v.applied)

/-- The phase and progress count after `n` comparisons with one outcome, from a starting phase and count (R60, R61). -/
def phaseAfter (d : RowEntry) (o : Outcome) : Nat → RowPhase × Nat → RowPhase × Nat
  | 0, p => p
  | n + 1, p => phaseAfter d o n ((phaseStep d p.1 p.2 o).1, (phaseStep d p.1 p.2 o).2.1)

/-- A LOAD command `cmd` of part `part` writes what `parse` finds in its fields, replies DONE with the part and the
index, and touches nothing else; an entry written undefined passes; an index or contents that fail get RANGE and write
nothing (R152). -/
def LoadWrites {α : Type} (cmd : Tag → Word → Word → List Word → Instr) (count : Nat) (part : Word)
    (parse : List Word → Option α) (write : TableSet → Nat → Option α → TableSet) : Prop :=
  ∀ (s : State) (tag : Tag) (index definedWord : Word) (fields : List Word), s.Ready → fields.length ≤ 60 →
    (index.toNat < count → definedWord = 1 → ∀ e, parse fields = some e →
      exec (cmd tag index definedWord fields) s =
        .next ({ s with pendingSet := write s.pendingSet index.toNat (some e) }.answer tag 1 .done
          (.loaded part index))) ∧
    (index.toNat < count → definedWord = 0 →
      exec (cmd tag index definedWord fields) s =
        .next ({ s with pendingSet := write s.pendingSet index.toNat none }.answer tag 1 .done (.loaded part index))) ∧
    ((count ≤ index.toNat ∨ (definedWord ≠ 0 ∧ definedWord ≠ 1) ∨ (definedWord = 1 ∧ parse fields = none)) →
      exec (cmd tag index definedWord fields) s = .next (s.answer tag 1 .range .empty))

/-- A READ command `cmd` of an item with `count` indices returns `item` of its index with DONE and changes nothing else;
an index the item does not have gets RANGE (R170). -/
def ReadReturns (cmd : Tag → Word → Instr) (count : Nat) (item : State → Nat → ReplyData) : Prop :=
  ∀ (s : State) (tag : Tag) (index : Word), s.Ready →
    (index.toNat < count → exec (cmd tag index) s = .next (s.answer tag 7 .done (item s index.toNat))) ∧
    (count ≤ index.toNat → exec (cmd tag index) s = .next (s.answer tag 7 .range .empty))

/-- A head's record as the point block takes it (R41): the raw reading of an input and whether a flag considered is set;
none when a QUAD record does not sample the input. -/
def Obtained (r : HeadRecord) (input : Nat) (fold : Fold) (raw : Nat) (overRange : Bool) : Prop :=
  (r.mode = .spread ∧ raw = r.reading input ∧ overRange = r.overFlag input) ∨
  (r.mode = .quad ∧ r.quadInput = input ∧
    overRange = (r.overFlag 0 || r.overFlag 1 || r.overFlag 2 || r.overFlag 3) ∧
    raw = match fold with
      | .peak => max (max (r.reading 0) (r.reading 1)) (max (r.reading 2) (r.reading 3))
      | .trough => min (min (r.reading 0) (r.reading 1)) (min (r.reading 2) (r.reading 3))
      | .mean => (r.reading 0 + r.reading 1 + r.reading 2 + r.reading 3) / 4
      | .last => r.reading 3)

/-! ### Ranges of loaded entries, and the words that spell them (section 11.3) -/

/-- A scope's index lies in its range (R53; log entry 9). -/
def Scope.InRange : Scope → Prop
  | .lane l => l < 8
  | .zone z => z < 8
  | .site => True

/-- A point entry within the ranges of R38. -/
def PointEntry.InRange (e : PointEntry) : Prop :=
  e.scope.InRange ∧ match e.source with
    | .ratio forward reflected => e.kind = .ratio ∧ forward ≤ 63 ∧ reflected ≤ 63
    | .head position input _ gain offset =>
      e.kind ≠ .ratio ∧ position ≤ 15 ∧ input ≤ 3 ∧ gain ≤ 65535 ∧ -32768 ≤ offset ∧ offset ≤ 32767

/-- A Head Table entry within the ranges of R153; a SPREAD entry holds quad input 0. -/
def HeadEntry.InRange (e : HeadEntry) : Prop :=
  (∀ id, e.expectedId = some id → id ≤ 15) ∧ e.quadInput ≤ 3 ∧ (e.mode = .spread → e.quadInput = 0) ∧
    ∀ z, e.arcScope = .zone z → z ≤ 7

/-- A curve within the ranges of R79. -/
def Curve.InRange (curve : Curve) : Prop :=
  2 ≤ curve.length ∧ curve.length ≤ 8 ∧ ∀ p ∈ curve, p.x ≤ 65535 ∧ p.y ≤ 1250

/-- A Condition Table entry within the ranges of R53 and the relations of R54. -/
def RowEntry.InRange (d : RowEntry) : Prop :=
  d.source ≤ 63 ∧ d.threshold ≤ 65535 ∧ d.release ≤ 65535 ∧ 1 ≤ d.qualifyCount ∧ d.qualifyCount ≤ 255 ∧
  1 ≤ d.releaseCount ∧ d.releaseCount ≤ 255 ∧ d.scope.InRange ∧
  (d.sense = .above → d.release ≤ d.threshold) ∧ (d.sense = .below → d.threshold ≤ d.release) ∧
  (d.action = .ceiling → (∃ v, d.ceiling = some (.fixed v) ∧ v ≤ 1250) ∨ ∃ c, d.ceiling = some (.curve c) ∧ c ≤ 3) ∧
  (d.action ≠ .ceiling → d.ceiling = none) ∧ (d.scaled = true → ∃ l, d.scope = .lane l)

/-- A zone plan entry within the range of R120, loaded and not resolved. -/
def ZoneEntry.InRange (e : ZoneEntry) : Prop := e.zone ≤ 7 ∧ e.fromDefault = false

/-- A lane plan entry within the ranges of R95. -/
def LanePlan.InRange (p : LanePlan) : Prop :=
  1 ≤ p.ratedWatts ∧ p.ratedWatts ≤ 65535 ∧ 1 ≤ p.pcal ∧ p.pcal ≤ 65536 ∧ (∀ i, p.ratioPoint = some i → i ≤ 63) ∧
  (match p.budgetClass with
    | .strict rank => 1 ≤ rank ∧ rank ≤ 8
    | .weighted weight => 1 ≤ weight ∧ weight ≤ 127) ∧
  100 ≤ p.reducedLevel ∧ p.reducedLevel ≤ 1000 ∧ 1 ≤ p.rampRate ∧ p.rampRate ≤ 1000

/-- Protection Parameters within the ranges of R153. -/
def Parameters.InRange (q : Parameters) : Prop :=
  q.blindCeiling ≤ 1000 ∧ 1 ≤ q.blindMuteCount ∧ q.blindMuteCount ≤ 255 ∧ 1 ≤ q.headLossLimit ∧ q.headLossLimit ≤ 15 ∧
  (∀ i, q.budgetPoint = some i → i ≤ 63) ∧ q.budgetCurve ≤ 3 ∧ 1 ≤ q.arcWindow ∧ q.arcWindow ≤ 65535 ∧
  1 ≤ q.arcLimit ∧ q.arcLimit ≤ 8 ∧ 1 ≤ q.blankingCount ∧ q.blankingCount ≤ 255 ∧ q.restrikeLevel ≤ 1000 ∧
  10 ≤ q.probeLevel ∧ q.probeLevel ≤ 200 ∧ 2 ≤ q.probeLength ∧ q.probeLength ≤ 255 ∧ q.probeRatioLimit ≤ 10000 ∧
  q.probeRetries ≤ 3 ∧ q.snapshotInterval ≤ 65535

/-- A LOAD's field words `f` are the words `ws` of an entry, word by word. -/
def Spells (f ws : List Word) : Prop := ∀ i, i < ws.length → f.getD i 0 = ws.getD i 0

/-- A LOAD's field words are those of an entry where the word is not all ones; a field given as all ones takes its default,
the word at its place of `defaults`; `first` is the first field that has one (section 11.3). -/
def SpellsWithDefaults (first : Nat) (defaults f ws : List Word) : Prop :=
  ∀ i, i < ws.length →
    (i < first → f.getD i 0 = ws.getD i 0) ∧
    (first ≤ i → (f.getD i 0 ≠ 0xFFFF#16 → f.getD i 0 = ws.getD i 0) ∧
      (f.getD i 0 = 0xFFFF#16 → ws.getD i 0 = defaults.getD (i - first) 0))

/-! ### Rows and their scopes -/

/-- A scope covers lane `l` (R65): the lane itself, a zone the plan places it in, or the site of the lanes below L. -/
def Scope.CoversLane (t : TableSet) (lanes : Nat) (scope : Scope) (l : Nat) : Prop :=
  scope = .lane l ∨ (∃ z, scope = .zone z ∧ l < lanes ∧ t.zoneOf l = some z) ∨ (scope = .site ∧ l < lanes)

/-- A scope reaches zone `z` (R65): the zone of its lane, the zone itself, or every zone below Z. -/
def Scope.ReachesZone (t : TableSet) (scope : Scope) (z : Nat) : Prop :=
  (∃ l, scope = .lane l ∧ t.zoneOf l = some z) ∨ scope = .zone z ∨ scope = .site

/-- A row's gating is satisfied (R58). -/
def State.GatingHolds (s : State) (d : RowEntry) : Prop :=
  d.gated = false ∨ match d.scope with
    | .lane l => (s.lane l).state = .on
    | .zone z =>
      (∀ l, l < s.siteRecord.lanes → s.activeSet.zoneOf l = some z → (s.lane l).state = .off ∨ (s.lane l).state = .on) ∧
        ∃ l, l < s.siteRecord.lanes ∧ s.activeSet.zoneOf l = some z ∧ (s.lane l).state = .on
    | .site =>
      (∀ l, l < s.siteRecord.lanes → (s.lane l).state = .off ∨ (s.lane l).state = .on) ∧
        ∃ l, l < s.siteRecord.lanes ∧ (s.lane l).state = .on

/-- The three conditions under which a row's threshold and release are scaled, and the reduced level that scales them
(R59). A checked plan gives every lane that such a row names its entry (R156). -/
def State.ScaledBy (s : State) (d : RowEntry) (level : Nat) : Prop :=
  d.scaled = true ∧ ∃ l e p, d.scope = .lane l ∧ s.activeSet.point d.source = some e ∧ (e.kind = .fwd ∨ e.kind = .ref) ∧
    (s.lane l).mode = .reduced ∧ s.activeSet.plan l = some p ∧ level = p.reducedLevel

/-- The effective threshold and release of a row (R59). -/
def State.ComparesWith (s : State) (d : RowEntry) (threshold release : Nat) : Prop :=
  (∃ level, s.ScaledBy d level ∧ threshold = d.threshold * level / 1000 ∧ release = d.release * level / 1000) ∨
  ((∀ level, ¬ s.ScaledBy d level) ∧ threshold = d.threshold ∧ release = d.release)

/-- A row advances at value `v` with outcome `o`: its source is VALID and not NOISY, its gating is satisfied, and the value
compares so with its effective threshold and release (R57 to R59). -/
def State.Advances (s : State) (d : RowEntry) (v : Nat) (o : Outcome) : Prop :=
  (s.pointOrNone d.source).state = .valid ∧ (s.pointOrNone d.source).noisy = false ∧
  (s.pointOrNone d.source).value = some v ∧ s.GatingHolds d ∧
  ∃ threshold release, s.ComparesWith d threshold release ∧
    o = match d.sense with
      | .above => if threshold < v then .crossing else if v < release then .release else .neither
      | .below => if v < threshold then .crossing else if release < v then .release else .neither

/-- Row `r` is an ARC row that a blank entry of zone `z` returns to IDLE (R69). -/
def State.ReturnsRow (s : State) (z r : Nat) : Prop :=
  r < rowCount ∧ ∃ d, s.activeSet.row r = some d ∧ d.action = .arc ∧
    (d.scope = .zone z ∨ ∃ l, d.scope = .lane l ∧ l < s.siteRecord.lanes ∧ s.activeSet.zoneOf l = some z)

/-- Row `r` owes a release notice at a blank entry of zone `z`: it is returned from ASSERTED or CLEARING with report ALERT
(R69). The notice carries `latched` and the source's value `v`. -/
def State.OwesReturnNotice (s : State) (z r : Nat) (latched : Bool) (v : Option Nat) : Prop :=
  s.ReturnsRow z r ∧ ∃ d q, s.activeSet.row r = some d ∧ s.rowRuntime r = some q ∧ d.report = .alert ∧
    (q.phase = .asserted ∨ q.phase = .clearing) ∧ latched = q.latched ∧ v = (s.pointOrNone d.source).value

/-- Row `r` is an effective CEILING row that covers lane `l`, with ceiling in force `c` (R66, R83). -/
def State.CapsLane (s : State) (r l c : Nat) : Prop :=
  ∃ d q, s.activeSet.row r = some d ∧ s.rowRuntime r = some q ∧
    (q.phase = .asserted ∨ q.phase = .clearing ∨ q.latched = true) ∧ d.action = .ceiling ∧
    d.scope.CoversLane s.activeSet s.siteRecord.lanes l ∧ q.ceilingInForce = some c

/-- Head position `h` serves lane `l`: a defined point on it has a scope that covers the lane (R34). -/
def State.Serves (s : State) (h l : Nat) : Prop :=
  ∃ i e input fold gain offset, i < pointCount ∧ s.activeSet.point i = some e ∧
    e.source = .head h input fold gain offset ∧ e.scope.CoversLane s.activeSet s.siteRecord.lanes l

/-- Row `r` is a mute cause of lane `l` with latch `outlast` (R67, R109): a defined, effective MUTE row that covers it. -/
def State.MutedByRow (s : State) (l r : Nat) (outlast : Latch) : Prop :=
  r < rowCount ∧ ∃ d q, s.activeSet.row r = some d ∧ s.rowRuntime r = some q ∧
    (q.phase = .asserted ∨ q.phase = .clearing ∨ q.latched = true) ∧ d.action = .mute ∧ d.latch = outlast ∧
    d.scope.CoversLane s.activeSet s.siteRecord.lanes l

/-- Row `r` is restarted or dropped by an application of `new` while ASSERTED or CLEARING with report ALERT, which owes a
release notice (R70, R75). -/
def State.OwesRelease (s : State) (new : TableSet) (r : Nat) : Prop :=
  r < rowCount ∧ ∃ d q, s.activeSet.row r = some d ∧ s.rowRuntime r = some q ∧ d.report = .alert ∧
    (q.phase = .asserted ∨ q.phase = .clearing) ∧
    ∀ d', new.row r = some d' → ¬ (d.source = d'.source ∧ d.scope = d'.scope ∧ d.action = d'.action)

/-- Row `r` has point `i` as its source, a defined RATIO point whose record is HELD (R50, R73). -/
def State.HeldSource (s : State) (r i : Nat) : Prop :=
  ∃ d e p, s.activeSet.row r = some d ∧ d.source = i ∧ s.activeSet.point i = some e ∧ e.kind = .ratio ∧
    s.pointRecord i = some p ∧ p.state = .held

/-! ### The checks of a validation (R156) -/

/-- A scope names a lane at or above L or a zone at or above Z. -/
def Scope.Beyond (r : SiteRecord) (scope : Scope) : Prop :=
  (∃ l, scope = .lane l ∧ r.lanes ≤ l) ∨ (∃ z, scope = .zone z ∧ r.zones ≤ z)

/-- A point is defined with a kind and a scope. -/
def TableSet.PointIs (t : TableSet) (i : Nat) (kind : PointKind) (scope : Scope) : Prop :=
  ∃ e, t.point i = some e ∧ e.kind = kind ∧ e.scope = scope

/-- A row's source is a defined RATIO point. -/
def TableSet.RatioSourced (t : TableSet) (d : RowEntry) : Prop := ∃ e, t.point d.source = some e ∧ e.kind = .ratio

/-- A set with its default zones resolved fails check `code` at `item`, line by line of the table of R156. -/
def FailsCheck (r : SiteRecord) (t : TableSet) (code item : Nat) : Prop :=
  match code with
  | 1 => item < 64 ∧ ∃ e position input fold gain offset,
      t.point item = some e ∧ e.source = .head position input fold gain offset ∧ r.heads ≤ position
  | 2 => item < 64 ∧ ∃ e, t.point item = some e ∧ e.scope.Beyond r
  | 3 => item < 64 ∧ ∃ e f g, t.point item = some e ∧ e.source = .ratio f g ∧
      ¬ (t.PointIs f .fwd e.scope ∧ t.PointIs g .ref e.scope)
  | 4 => item < 16 ∧ item < r.heads ∧ ∃ e z, t.head item = some e ∧ e.arcScope = .zone z ∧ r.zones ≤ z
  | 5 => item < 4 ∧ ∃ curve k p q, t.curve item = some curve ∧ curve[k]? = some p ∧ curve[k + 1]? = some q ∧ q.x ≤ p.x
  | 6 => item < 48 ∧ ∃ d, t.row item = some d ∧ t.point d.source = none
  | 7 => item < 48 ∧ ∃ d, t.row item = some d ∧ d.scope.Beyond r
  | 8 => item < 48 ∧ ∃ d c, t.row item = some d ∧ d.action = .ceiling ∧ d.ceiling = some (.curve c) ∧ t.curve c = none
  | 9 => item < 48 ∧ ∃ d, t.row item = some d ∧ d.action = .mute ∧ t.RatioSourced d ∧ d.latch = .self
  | 10 => item < 48 ∧ ∃ d, t.row item = some d ∧ d.action = .arc ∧ d.latch = .latch
  | 11 => item < 48 ∧ ∃ d c curve p, t.row item = some d ∧ d.action = .ceiling ∧ d.ceiling = some (.curve c) ∧
      t.RatioSourced d ∧ t.curve c = some curve ∧ p ∈ curve ∧ p.y < r.ratioFloor
  | 12 => item < 8 ∧ item < r.lanes ∧ ∃ z, t.zoneOf item = some z ∧ r.zones ≤ z
  | 13 => item < 8 ∧ item < r.zones ∧ ∀ l, l < r.lanes → t.zoneOf l ≠ some item
  | 14 => item < 8 ∧ item < r.lanes ∧ t.plan item = none
  | 15 => item < 8 ∧ item < r.lanes ∧ ∃ p i, t.plan item = some p ∧ p.ratioPoint = some i ∧
      ¬ t.PointIs i .ratio (.lane item)
  | 16 => item = 0 ∧ t.parameters.probeLevel < r.ratioFloor
  | 17 => item < 4 ∧ item = t.parameters.budgetCurve ∧ t.parameters.budgetPoint ≠ none ∧ t.curve item = none
  | _ => False

/-! ### The site budget -/

/-- Lane `i` is served before lane `j` when the budget is short: strict lanes by rank and then lane number, before every
weighted lane; weighted lanes by demand per unit of weight in cross products, and then lane number (R144, R145). -/
def servedBefore (t : TableSet) (demands : List Nat) (i j : Nat) : Bool :=
  match (t.plan i).map LanePlan.budgetClass, (t.plan j).map LanePlan.budgetClass with
  | some (.strict a), some (.strict b) => a < b || (a == b && i < j)
  | some (.strict _), some (.weighted _) => true
  | some (.weighted v), some (.weighted w) =>
    demands.getD i 0 * w < demands.getD j 0 * v ||
      (demands.getD i 0 * w == demands.getD j 0 * v && i < j)
  | _, _ => false

/-- A weighted lane's weight, and 0 for any other lane. -/
def weightOf (t : TableSet) (l : Nat) : Nat :=
  match (t.plan l).map LanePlan.budgetClass with
  | some (.weighted w) => w
  | _ => 0

/-! ### Snapshots -/

/-- A snapshot as the seventh stage builds it (R176): the sweep number and, for each of the eight lanes, its state, its
applied scale, the forward value of the FWD point that its ratio point names and the value of its ratio point, with their
point states; a lane at or above L is OFF with A = 0, and a lane whose plan names no ratio point has no measurements. -/
def State.SnapshotIs (s : State) (sweep : SweepNo) (p : Snapshot) : Prop :=
  let shows (i : Nat) : Measurement := { value := (s.pointOrNone i).value, state := (s.pointOrNone i).state }
  p.sweep = sweep ∧ p.lanes.length = 8 ∧
  ∀ l x, p.lanes[l]? = some x →
    (l < s.siteRecord.lanes →
      x.state = (s.lane l).state ∧ x.applied = (s.lane l).applied ∧
      x.ratio = ((s.activeSet.plan l).bind (·.ratioPoint)).map shows ∧
      (∀ i e f g, (s.activeSet.plan l).bind (·.ratioPoint) = some i → s.activeSet.point i = some e →
        e.source = .ratio f g → x.forward = some (shows f)) ∧
      ((s.activeSet.plan l).bind (·.ratioPoint) = none → x.forward = none)) ∧
    (s.siteRecord.lanes ≤ l → x.state = .off ∧ x.applied = 0 ∧ x.forward = none ∧ x.ratio = none)

/-! ### Lanes -/

/-- OFF, BLANK, MUTED and LOCKOUT are the silent states (R99). -/
def LaneState.silent : LaneState → Bool
  | .off => true
  | .probe => false
  | .ramp => false
  | .on => false
  | .blank => true
  | .muted => true
  | .lockout => true

/-- One lane's scales are safe (R5, R90, R99): A at most T, T at most 65536, the held multiplier computed from A, and
T = 0 in a silent state and on a lane that waits to restrike. -/
def State.laneSafe (s : State) (l : Nat) : Prop :=
  (s.lane l).applied ≤ (s.lane l).target ∧
  (s.lane l).target ≤ 65536 ∧
  s.multiplier l = multiplierOf (s.lane l).applied ∧
  ((s.lane l).state.silent = true → (s.lane l).target = 0) ∧
  ((s.lane l).restriking = true → (s.lane l).state = .ramp ∧ (s.lane l).target = 0)

/-- Every lane's scales are safe. -/
def State.ScalesSafe (s : State) : Prop :=
  s.lanes.length = laneCount ∧ s.multipliers.length = laneCount ∧ ∀ l, l < laneCount → s.laneSafe l

/-! ### Notices and command places -/

/-- The notice queue holds at most 16 notices, no two for one subject, each with a changes count of 1 to 255 (R173,
R174). -/
def State.NoticesSound (s : State) : Prop :=
  s.notices.length ≤ noticeCapacity ∧ (s.notices.map (·.subject)).Nodup ∧
    ∀ n ∈ s.notices, 1 ≤ n.changes ∧ n.changes ≤ 255

/-- At most four places are held, and a filled refusal record stands behind replies that are still queued (R166,
R167). -/
def State.PlacesSound (s : State) : Prop :=
  s.placesHeld ≤ commandPlaces ∧ ∀ r, s.refusal = some r → r.ahead ≤ s.replies.length

/-! ### Tables and phases -/

/-- In SETUP the active set is empty and every lane is OFF with its on request clear; in SERVICE the active set passes
every check; a waiting activation's set passes every check (R151, R157, R163). -/
def State.PlanSound (s : State) : Prop :=
  s.lanes.length = laneCount ∧
  (s.phase = .setup → s.activeSet = TableSet.empty ∧
    ∀ l, l < laneCount → (s.lane l).state = .off ∧ (s.lane l).onRequest = false) ∧
  (s.phase = .service → validate s.siteRecord s.activeSet = none) ∧
  ∀ w, s.waiting = some w → validate s.siteRecord w.tables = none

/-! ### Counts -/

/-- Every saturating count stays within its range (R14, R31, R33, R35, R62, R167, R174). -/
def State.CountsBounded (s : State) : Prop :=
  s.linkStatistics.framesTaken ≤ greatest32 ∧ s.linkStatistics.checkFailures ≤ greatest32 ∧
  s.linkStatistics.unknownLane ≤ greatest32 ∧ s.consecutiveFailures ≤ 65535 ∧
  s.sweepStatistics.launched ≤ greatest32 ∧ s.sweepStatistics.timeouts ≤ greatest32 ∧
  s.sweepStatistics.frameChecks ≤ greatest32 ∧ s.sweepStatistics.headerMismatches ≤ greatest32 ∧
  s.sweepStatistics.countMismatches ≤ greatest32 ∧ s.sweepStatistics.late ≤ greatest32 ∧
  s.droppedCount ≤ 65535 ∧ (∀ k, s.staleCount k ≤ 255) ∧ (∀ r, s.refusal = some r → r.count ≤ 65535) ∧
  ∀ r q, s.rowRuntime r = some q → q.assertions ≤ 65535

/-- What every step keeps, and what the state at the release of RESET_N satisfies. -/
def State.Sound (s : State) : Prop :=
  s.ScalesSafe ∧ s.NoticesSound ∧ s.PlacesSound ∧ s.PlanSound ∧ s.CountsBounded

end Sys2Proof.Machine
end

