-- ==== Sys2Proof/WellFormed.lean ====
section
/-! DEFINITION. Well-formed commands: an operand list has the length its layout gives it (chapter 11), and an UNKNOWN
command's kind code is none of the eight (R166, R180). -/

namespace Sys2Proof

/-- A forward frame's payload has 64 words (section 11.2: words 3..66). -/
def ForwardFrame.WellFormed : ForwardFrame → Bool
  | .drive _ _ _ _ samples => samples.length == 64
  | .command _ _ payload => payload.length == 64
  | .filler _ => true

/-- A mid-evaluation event's frame is well formed; any words may come in on the loop (R23). -/
def MidEvent.WellFormed : MidEvent → Bool
  | .goodFrame f => f.WellFormed
  | _ => true

/-- Every event taken during an evaluation is well formed. -/
def During.WellFormed (d : During) : Bool := d.all fun e => e.2.WellFormed

/-- The entry's fields fit behind payload words 3..6 (section 11.3: fields from word 7 on, 60 words). -/
def loadWellFormed (fields : List Word) : Bool := fields.length ≤ 60

/-- The check each command's operands must pass to be a row of the table. -/
def Instr.WellFormed : Instr → Bool
  | .goodFrameAligned f => f.WellFormed
  | .driveFrame _ _ _ _ samples => samples.length == 64
  | .commandFrame _ _ payload => payload.length == 64
  | .sweepTick during => During.WellFormed during
  | .sweepReturn _ during => During.WellFormed during
  | .loadPoint _ _ _ f => loadWellFormed f
  | .loadHead _ _ _ f => loadWellFormed f
  | .loadCurve _ _ _ f => loadWellFormed f
  | .loadCondition _ _ _ f => loadWellFormed f
  | .loadZonePlan _ _ _ f => loadWellFormed f
  | .loadLanePlan _ _ _ f => loadWellFormed f
  | .loadParameters _ _ _ f => loadWellFormed f
  | .unknown _ kind args => (kind.toNat == 0 || 8 < kind.toNat) && args.length ≤ 63
  | .openingMarkFound => true
  | .badCheckFrame => true
  | .missingOpeningMark => true
  | .fillerFrame _ => true
  | .lanePortFrameBoundary => true
  | .returnFrameBoundary => true
  | .inhibitNAssert => true
  | .inhibitNDeassert => true
  | .arcNFall => true
  | .arcNRise => true
  | .resetNAssert => true
  | .resetNRelease _ => true
  | .activationAbandon => true
  | .blankingEnd _ => true
  | .probeJudgement _ => true
  | .snapshotBuild => true
  | .evaluationComplete => true
  | .discard _ => true
  | .activate _ => true
  | .site _ _ _ _ _ _ _ _ _ => true
  | .laneOn _ _ => true
  | .laneOff _ _ => true
  | .laneMode _ _ _ => true
  | .laneSetpoint _ _ _ => true
  | .clear _ _ _ _ _ _ _ _ => true
  | .readLane _ _ => true
  | .readZone _ _ => true
  | .readRow _ _ => true
  | .readPoint _ _ => true
  | .readCurve _ _ => true
  | .readHead _ _ => true
  | .readSiteRecord _ => true
  | .readParameters _ => true
  | .readPendingEntry _ _ _ => true
  | .readLinkStatistics _ => true
  | .readSweepStatistics _ => true
  | .readAlertSet _ => true
  | .restart _ => true

end Sys2Proof
end

