-- ==== Sys2Proof/Certificates/Slice0/Obligations.lean ====
section
/-! DEFINITION. The statements about the 7210 for the provers, family by family: the machine and its invariants, the drive
path, the codings, the sense loop, points and rows, zones and lanes, activation, and the management commands. -/

open Sys2Proof Sys2Proof.Machine

/-! ### The machine -/

/-- One step takes the command at the front of the queue and runs it with the queue's rest; on an empty queue the block
idles, which is the model's choice (log entry 5). -/
def Obligations.StepRunsTheFrontCommand : Prop :=
  (∀ (c : Instr) (rest : List Instr) (s : State),
    step { s with pending := c :: rest } = exec c { s with pending := rest }) ∧
  ∀ s : State, s.pending = [] → step s = .next s

/-- While RESET_N is low no command acts but the pins' own level changes and the release (R181). -/
def Obligations.InResetNothingIsTaken : Prop :=
  ∀ (c : Instr) (s : State), s.inReset = true →
    (c ≠ .inhibitNAssert → c ≠ .inhibitNDeassert → c ≠ .arcNFall → c ≠ .arcNRise → c ≠ .resetNAssert →
      (∀ p, c ≠ .resetNRelease p) → exec c s = .next s) ∧
    (c = .inhibitNAssert → exec c s = .next { s with inhibitLow := true }) ∧
    (c = .inhibitNDeassert → exec c s = .next { s with inhibitLow := false }) ∧
    (c = .arcNFall → exec c s = .next { s with arcLow := true }) ∧
    (c = .arcNRise → exec c s = .next { s with arcLow := false })

/-- The state at the release of RESET_N satisfies everything that every step keeps. -/
def Obligations.ResetStateIsSound : Prop := State.reset.Sound

/-- Every step keeps each lane's scales safe: A at most T, T at most 65536, the multiplier computed from A, and no drive
in a silent state (R5, R90, R99). -/
def Obligations.StepKeepsScalesSafe : Prop := ∀ s t : State, s.ScalesSafe → step s = .next t → t.ScalesSafe

/-- Every step keeps the notice queue within 16 notices, one for each subject. A notice that is queued updates the queued
notice of its subject in place with one more change, or joins the tail with one change while fewer than 16 are queued, or is
dropped and counted (R174). -/
def Obligations.StepKeepsNoticesSound : Prop :=
  (∀ s t : State, s.NoticesSound → step s = .next t → t.NoticesSound) ∧
  ∀ (s : State) (n : Notice),
    ((∃ m, m ∈ s.notices ∧ m.subject = n.subject) →
      s.queueNotice n = { s with
        notices := s.notices.map fun m =>
          if m.subject = n.subject then { n with changes := min 255 (m.changes + 1) } else m }) ∧
    ((∀ m, m ∈ s.notices → m.subject ≠ n.subject) →
      (s.notices.length < 16 → s.queueNotice n = { s with notices := s.notices ++ [{ n with changes := 1 }] }) ∧
      (16 ≤ s.notices.length →
        s.queueNotice n = { s with noticesDropped := true, droppedCount := min 65535 (s.droppedCount + 1) }))

/-- Every step keeps at most four places held, and every saturating count within its range (R14, R31, R33, R35, R62, R166,
R167, R174). The refusal record's place among the replies is log entry 29. -/
def Obligations.StepKeepsPlacesSound : Prop :=
  (∀ s t : State, s.PlacesSound → step s = .next t → t.PlacesSound) ∧
  ∀ s t : State, s.CountsBounded → step s = .next t → t.CountsBounded

/-- Every step keeps the plan in force a checked one, and SETUP's active set empty with every lane OFF (R151, R163). -/
def Obligations.StepKeepsPlanSound : Prop := ∀ s t : State, s.PlanSound → step s = .next t → t.PlanSound

/-- No command but the fall and the release of RESET_N takes the part out of SERVICE (R162). -/
def Obligations.ServiceEndsOnlyByReset : Prop :=
  ∀ (c : Instr) (s t : State), s.phase = .service → exec c s = .next t →
    t.phase = .service ∨ c = .resetNAssert ∨ ∃ p, c = .resetNRelease p

/-! ### The drive path -/

/-- A DRIVE frame taken while LOCKED for a lane below L is scaled by its lane's held multiplier, or by 0 while the
force-zero set has a member, and stands in the lane's holding slot; one for a lane at or above L is discarded and
counted. Both are taken frames, and header bits 9..0 are ignored as received and sent as 0 (R4, R6, R7, R11, R14, R180).
That the header sent unchanged means the fields its layout assigns is log entry 17. -/
def Obligations.DriveFrameIsScaledIntoItsSlot : Prop :=
  ∀ (s : State) (lane : BitVec 3) (hold : Bool) (low : BitVec 10) (sequence : Word) (samples : List Word),
    s.inReset = false → s.link = .locked →
    let m : Nat := if s.forceArcLine || s.forceInhibit then 0 else s.multiplier lane.toNat
    let header : Word := (1 : BitVec 2) ++ lane ++ BitVec.ofBool hold ++ (0 : BitVec 10)
    let payload : List Word := samples.map fun x =>
      BitVec.ofInt 16 (max (-32768) (min 32767 ((x.toInt * m + 16384) / 32768)))
    let frame : Frame := { header, word2 := sequence, payload, check := crc (header :: sequence :: payload) }
    let t : State := s.withTakenFrame hold
    (lane.toNat < s.siteRecord.lanes →
      exec (.driveFrame lane hold low sequence samples) s =
        .next { t with holdingSlots := s.holdingSlots.set lane.toNat (some frame) }) ∧
    (s.siteRecord.lanes ≤ lane.toNat →
      exec (.driveFrame lane hold low sequence samples) s =
        .next { t with
          linkStatistics := { t.linkStatistics with unknownLane := min 4294967295 (s.linkStatistics.unknownLane + 1) } })

/-- A COMMAND frame taken while LOCKED is a taken frame, and its command is kept and taken, kept, or refused. On a Ready
state it is kept and taken at once: DISCARD and UNKNOWN with their whole effect, and any payload with the tag and kind
of its one reply, or as an ACTIVATE that waits. Behind a waiting activation or an evaluation in progress it is kept at the
tail when a place is free; with all four places held it is refused into the refusal record. Whatever the state, each
command's payload does what that command's own row does (R166 to R168, R180, section 11.3). That a command's own row is
its arrival at the queue is log entry 7; the refusal record's place behind the replies of that moment is log entry 29. -/
def Obligations.CommandFrameIsKeptOrRefused : Prop :=
  ∀ (s : State) (hold : Bool) (tag : Tag) (payload : List Word), s.inReset = false → s.link = .locked →
    let t : State := s.withTakenFrame hold
    let frame (words : List Word) : Instr := .commandFrame hold tag (payloadOf words)
    (s.Ready →
      exec (frame [2]) s =
        .next ({ t with
          pendingSet := { s.activeSet with
            zonePlan := s.activeSet.zonePlan.map fun (z : Option ZoneEntry) =>
              if z.any (fun (e : ZoneEntry) => e.fromDefault) then none else z } }.answer tag 2 .done .empty) ∧
      (∀ kind arguments, (kind = 0 ∨ 8 < kind.toNat) →
        exec (frame (kind :: arguments)) s = .next (t.answer tag kind .unknown .empty)) ∧
      ∃ u : State, exec (.commandFrame hold tag payload) s = .next u ∧ u.reportHold = hold ∧
        u.linkStatistics = t.linkStatistics ∧ u.refusal = s.refusal ∧
        ((u.commands = [] ∧
            ∃ result data, u.replies = s.replies ++ [{ tag, kind := payload.getD 0 0, result, data }]) ∨
          (u.commands = [{ tag, payload }] ∧ payload.getD 0 0 = 3 ∧ u.waiting.isSome = true ∧
            u.replies = s.replies))) ∧
    ((s.waiting.isSome ∨ s.evaluation.isSome) → s.commands.length + s.replies.length < 4 →
      exec (.commandFrame hold tag payload) s = .next { t with commands := s.commands ++ [{ tag, payload }] }) ∧
    (4 ≤ s.commands.length + s.replies.length →
      (s.refusal = none →
        exec (.commandFrame hold tag payload) s = .next { t with refusal := some (Refused.one tag s.replies.length) }) ∧
      (∀ r, s.refusal = some r →
        let more : Refused :=
          { r with tags := r.tags ||| ((1 : BitVec 256) <<< tag.toNat), count := min 65535 (r.count + 1) }
        exec (.commandFrame hold tag payload) s = .next { t with refusal := some more })) ∧
    exec (frame [2]) s = exec (.discard tag) t ∧
    exec (frame [3]) s = exec (.activate tag) t ∧
    exec (frame [8]) s = exec (.restart tag) t ∧
    (∀ lanes zones heads period failLimit ratioFloor maxHigh maxLow,
      exec (frame [4, lanes, zones, heads, period, failLimit, ratioFloor, maxHigh, maxLow]) s =
        exec (.site tag lanes zones heads period failLimit ratioFloor maxHigh maxLow) t) ∧
    (∀ lane value,
      exec (frame [5, lane, 1, 0, 0, 0]) s = exec (.laneOn tag lane) t ∧
      exec (frame [5, lane, 2, 0, 0, 0]) s = exec (.laneOff tag lane) t ∧
      exec (frame [5, lane, 0, value, 0, 0]) s = exec (.laneMode tag lane value) t ∧
      exec (frame [5, lane, 0, 0, 1, value]) s = exec (.laneSetpoint tag lane value) t) ∧
    (∀ seenOption rows0 rows1 rows2 rows3 lanes zones,
      exec (frame [6, seenOption, rows0, rows1, rows2, rows3, lanes, zones]) s =
        exec (.clear tag seenOption rows0 rows1 rows2 rows3 lanes zones) t) ∧
    (∀ index part,
      exec (frame [7, 0, index]) s = exec (.readLane tag index) t ∧
      exec (frame [7, 1, index]) s = exec (.readZone tag index) t ∧
      exec (frame [7, 2, index]) s = exec (.readRow tag index) t ∧
      exec (frame [7, 3, index]) s = exec (.readPoint tag index) t ∧
      exec (frame [7, 4, index]) s = exec (.readCurve tag index) t ∧
      exec (frame [7, 5, index]) s = exec (.readHead tag index) t ∧
      exec (frame [7, 6]) s = exec (.readSiteRecord tag) t ∧
      exec (frame [7, 7]) s = exec (.readParameters tag) t ∧
      exec (frame [7, 8, index, part]) s = exec (.readPendingEntry tag index part) t ∧
      exec (frame [7, 9]) s = exec (.readLinkStatistics tag) t ∧
      exec (frame [7, 10]) s = exec (.readSweepStatistics tag) t ∧
      exec (frame [7, 11]) s = exec (.readAlertSet tag) t) ∧
    (∀ index definedWord fields,
      let load (part : Word) : Instr := frame (1 :: part :: index :: definedWord :: fields)
      exec (load 0) s = exec (.loadPoint tag index definedWord fields) t ∧
      exec (load 1) s = exec (.loadHead tag index definedWord fields) t ∧
      exec (load 2) s = exec (.loadCurve tag index definedWord fields) t ∧
      exec (load 3) s = exec (.loadCondition tag index definedWord fields) t ∧
      exec (load 4) s = exec (.loadZonePlan tag index definedWord fields) t ∧
      exec (load 5) s = exec (.loadLanePlan tag index definedWord fields) t ∧
      exec (load 6) s = exec (.loadParameters tag index definedWord fields) t) ∧
    ∀ kind arguments, (kind = 0 ∨ 8 < kind.toNat) →
      exec (frame (kind :: arguments)) s = exec (.unknown tag kind arguments) t

/-- A frame with a good check has one effect whichever row brings it, the row of good frames or the row of its kind. In SEARCH
no frame is assembled, and a good frame while ALIGNED raises the good-frame count and is not taken: no DRIVE frame reaches a
slot, no command joins the queue, and nothing else changes. The fourth locks the link with bad-frame count 0 and is taken as a
LOCKED link takes it, which the statements above say of DRIVE and COMMAND frames; a FILLER frame taken counts, gives the report
hold and does nothing else (R1, R2, R3, R11). -/
def Obligations.FourthGoodFrameLocksTheLink : Prop :=
  ∀ (s : State) (f : ForwardFrame) (c : Instr), s.inReset = false →
    (c = .goodFrameAligned f ∨
      (∃ lane hold low sequence samples,
        f = .drive lane hold low sequence samples ∧ c = .driveFrame lane hold low sequence samples) ∨
      (∃ hold tag payload, f = .command hold tag payload ∧ c = .commandFrame hold tag payload) ∨
      (∃ hold, f = .filler hold ∧ c = .fillerFrame hold)) →
    exec c s = exec (.goodFrameAligned f) s ∧
    (s.link = .search → exec c s = .next s) ∧
    (s.link = .aligned → s.goodFrames < 3 → exec c s = .next { s with goodFrames := s.goodFrames + 1 }) ∧
    (s.link = .aligned → s.goodFrames = 3 →
      exec c s = exec c { s with goodFrames := 4, badFrames := 0, link := .locked }) ∧
    ∀ hold, f = .filler hold →
      (s.link = .aligned → s.goodFrames = 3 →
        exec c s = .next (State.withTakenFrame { s with goodFrames := 4, link := .locked } hold)) ∧
      (s.link = .locked → exec c s = .next (s.withTakenFrame hold))

/-- An opening mark, a bad check and a missing mark in the states in which they mute no lane: the link state, the
counts and the check-failure statistic (R2, R14). That the counts are kept in SEARCH is log entry 20. -/
def Obligations.LinkFollowsMarksAndChecks : Prop :=
  ∀ s : State, s.inReset = false →
    (s.link = .search → exec .openingMarkFound s = .next { s with link := .aligned, goodFrames := 0 }) ∧
    (s.link ≠ .search → exec .openingMarkFound s = .next s) ∧
    (s.link = .search → exec .badCheckFrame s = .next s ∧ exec .missingOpeningMark s = .next s) ∧
    (s.link = .aligned →
      exec .badCheckFrame s = .next { s.withCheckFailure with link := .search } ∧
      exec .missingOpeningMark s = .next { s with link := .search }) ∧
    (s.link = .locked → s.badFrames < 7 →
      exec .badCheckFrame s = .next { s.withCheckFailure with badFrames := s.badFrames + 1 })

/-- The eighth bad check in a row, and a missing opening mark, take a LOCKED link to SEARCH; LINK_LOSS is raised and
every lane in PROBE, RAMP, ON or BLANK is MUTED at once, as a whole record, and queues its lane notice; every other lane
stands as it was, and an evaluation in progress notes the muted lanes; nothing else changes (R2, R3, R110, R116). That the
bad-frame count stands as it was in SEARCH is log entry 20, the sweep number of an entry and its notice during an evaluation
is log entry 33, and the order of the lanes' notices is log entry 35. -/
def Obligations.LosingLockMutesTheLanes : Prop :=
  ∀ s : State, s.inReset = false → s.link = .locked → s.lanes.length = laneCount → s.multipliers.length = laneCount →
    (s.badFrames = 7 → ∃ t, exec .badCheckFrame s = .next t ∧ t.linkLoss = true ∧ s.LanesMuted t ∧
      State.OnlyLanesAndNotices { s.withCheckFailure with link := .search, badFrames := 8 } t) ∧
    (∃ t, exec .missingOpeningMark s = .next t ∧ t.linkLoss = true ∧ s.LanesMuted t ∧
      State.OnlyLanesAndNotices { s with link := .search } t)

/-- At a lane-port boundary each port below L sends its slot's frame or filler, ports at or above L send filler, and
every slot is empty afterwards (R7). What becomes of a frame in the slot of a lane at or above L is log entry 18, and that
the report hold bit of a filler's header is 0 is log entry 39. -/
def Obligations.LanePortsSendAndEmptyTheirSlots : Prop :=
  ∀ s : State, s.inReset = false →
    exec .lanePortFrameBoundary s =
      .next { s with
        lanePorts := (List.range 8).map fun l =>
          some (if l < s.siteRecord.lanes then (s.holdingSlots.getD l none).getD portFiller else portFiller)
        holdingSlots := List.replicate 8 none }

/-- At a return boundary the first that exists of the oldest notice, the oldest reply (the refusal record by its place
among them), the snapshot while hold is clear, and filler is sent and leaves its collection, with the site summary in
word 2 (R12, R13, R166, R167). The words of a NOTICE, of the refusal reply, of a SNAPSHOT and of a REPLY stand place by place,
with the codes of the states, the causes and the results (section 11.4). However long a READ of a lane's list of mute causes
is, the lane plan entry and the lane record up to the lockout cause stand in their places of the payload (R119, section 11.4).
The data words of the replies are the model's choice in part: that the defined word is 1 or 0, that a flag is 1 or 0, which
items take two words, in what order they follow, and the codes of mute causes and of what blocks an activation are log
entry 13, and that Pcal takes two words of the plan entry is log entry 12. The place of the refusal record
is log entry 29, the words of data too long for a payload from that list on are log entry 2. -/
def Obligations.ReturnBoundarySendsTheFirstThatExists : Prop :=
  (∀ s : State, s.inReset = false →
    (∀ n rest, s.notices = n :: rest →
      exec .returnFrameBoundary s = s.sendsReturn { s with notices := rest } 0x4000#16 n.payload) ∧
    (s.notices = [] →
      (∀ r, s.refusal = some r → (r.ahead = 0 ∨ s.replies = []) →
        exec .returnFrameBoundary s =
          s.sendsReturn { s with refusal := none } ((2 : BitVec 2) ++ (0 : BitVec 6) ++ r.firstTag) r.payload) ∧
      (∀ q rest, s.replies = q :: rest → (∀ r, s.refusal = some r → 0 < r.ahead) →
        let t : State := { s with replies := rest, refusal := s.refusal.map fun r => { r with ahead := r.ahead - 1 } }
        exec .returnFrameBoundary s = s.sendsReturn t ((2 : BitVec 2) ++ (0 : BitVec 6) ++ q.tag) (q.payload s.draws)) ∧
      (s.replies = [] → s.refusal = none →
        (∀ p, s.snapshot = some p → s.reportHold = false →
          exec .returnFrameBoundary s = s.sendsReturn { s with snapshot := none } 0xC000#16 p.payload) ∧
        ((s.snapshot = none ∨ s.reportHold = true) →
          exec .returnFrameBoundary s = s.sendsReturn s 0 (List.replicate 64 0))))) ∧
  (∀ n : Notice,
    let kindAndSubject : List Word := match n.subject with
      | .row r => [0, word r]
      | .lane l => [1, word l]
      | .zone z => [2, word z]
      | .senseBlind => [3, 0]
      | .arcLineStuck => [3, 1]
      | .headLost k => [3, word (16 + k)]
      | .spuriousArc => [4, 0]
    let newState : List Word := match n.state with
      | .row phase latched => [word phase.code, flag latched]
      | .lane state => [word state.code, 0]
      | .zone state => [word state.code, 0]
      | .raised => [1, 0]
      | .released => [0, 0]
      | .spurious => [0, 0]
    let value : List Word := match n.value with
      | .none => [0xFFFF, 0xFFFF]
      | .number v => words32 v
      | .cause c => [0, word c.code]
    n.payload = kindAndSubject ++ newState ++ value ++ words32 n.sweep.toNat ++ [word n.changes] ++
      List.replicate 55 0) ∧
  (∀ r : Refused,
    r.payload = [0xFFFF, 2, word r.count] ++ ((List.range 16).map fun w => r.tags.extractLsb' (16 * w) 16) ++
      List.replicate 45 0) ∧
  (∀ p : Snapshot, p.lanes.length = 8 →
    let measured : Option Measurement → List Word := fun m => match m with
      | none => [0xFFFF, 0xFFFF]
      | some m => [match m.value with
          | some v => word v
          | none => 0xFFFF, word m.state.code]
    p.payload = words32 p.sweep.toNat ++
      (p.lanes.flatMap fun x => word x.state.code :: words32 x.applied ++ measured x.forward ++ measured x.ratio) ++
      List.replicate 6 0) ∧
  (∀ (q : Reply) (draws : Nat), q.data.words.length ≤ 62 →
    q.payload draws = q.kind :: word q.result.code :: q.data.words ++ List.replicate (62 - q.data.words.length) 0) ∧
  (∀ d : ReplyData,
    let entry (fields : Option (List Word)) : List Word := match fields with
      | some ws => 1 :: ws
      | none => [0]
    d.words = match d with
      | .empty => []
      | .loaded part index => [part, index]
      | .activated sweep deferrals => words32 sweep.toNat ++ [word deferrals]
      | .activationRefused rows lanes => [flag (0 < rows), flag (0 < lanes), word rows, word lanes]
      | .activationAbandoned .blank => [0]
      | .activationAbandoned .latched => [1]
      | .activationAbandoned .lockout => [2]
      | .inconsistent code item => [word code, word item]
      | .siteInForce r => r.words
      | .laneInForce state on mode setpoint => [word state.code, flag on, word mode.code, word setpoint]
      | .cleared rows lanes unlatched returned unlocked =>
        setWords 4 rows ++ setWords 1 lanes ++ [word unlatched, word returned, word unlocked]
      | .lane plan v causes =>
        entry (plan.map LanePlan.words) ++
        [word v.state.code, flag v.onRequest, word v.mode.code, word v.setpoint, word v.ceiling] ++ words32 v.demand ++
        words32 v.grant ++ [word v.budgetCeiling] ++ words32 v.target ++ words32 v.applied ++
        [word v.probeRemaining, word v.retriesUsed, word v.lockoutCause.code, word causes.length] ++
        (causes.map fun c => match c with
          | .row r => word r
          | .inhibit => 48
          | .linkLoss => 49
          | .blindMute => 50) ++
        [flag v.muteInvolvedLatch, flag v.probeOwed, flag v.firstTurnOnDone] ++ words32 v.stateEntrySweep.toNat
      | .zone v members =>
        [word v.state.code, word v.blankRemaining, word v.arcHistory.length] ++
        (v.arcHistory.flatMap fun e => words32 e.toNat) ++ setWords 1 members
      | .row none _ => [0]
      | .row (some (e, q)) effective =>
        1 :: e.words ++ [word q.phase.code, word q.progress, flag q.latched, flag q.seen] ++
        words32OrNone (q.firstSweep.map (·.toNat)) ++
        [word q.assertions, wordOrNone q.extreme, flag effective, wordOrNone q.ceilingInForce]
      | .point none => [0]
      | .point (some (e, p)) =>
        1 :: e.words ++ [word p.state.code, wordOrNone p.value, flag p.overRange, flag p.noisy]
      | .curve found => entry (found.map curveWords)
      | .head found reported stale lost =>
        entry (found.map HeadEntry.words) ++ (match reported with
          | some m => [word m.mode.code, word m.quadInput]
          | none => [0xFFFF, 0xFFFF]) ++ [word stale, flag lost]
      | .siteRecord r phase waits b =>
        r.words ++ [word phase.code, flag waits, word b.value] ++ words32 b.siteBudget ++ words32 b.demandSum ++
        [flag b.short] ++ words32 b.unassigned
      | .parameters p => p.words
      | .pendingEntry (.point e) => entry (e.map PointEntry.words)
      | .pendingEntry (.head e) => entry (e.map HeadEntry.words)
      | .pendingEntry (.curve e) => entry (e.map curveWords)
      | .pendingEntry (.row e) => entry (e.map RowEntry.words)
      | .pendingEntry (.zone e) => entry (e.map ZoneEntry.words)
      | .pendingEntry (.lane e) => entry (e.map LanePlan.words)
      | .pendingEntry (.parameters p) => p.words
      | .linkStatistics x => words32 x.framesTaken ++ words32 x.checkFailures ++ words32 x.unknownLane
      | .sweepStatistics x =>
        words32 x.launched ++ words32 x.timeouts ++ words32 x.frameChecks ++ words32 x.headerMismatches ++
        words32 x.countMismatches ++ words32 x.late
      | .alertSet a dropped droppedCount queueLength =>
        setWords 4 a.rows ++ setWords 1 a.lanes ++ setWords 1 a.headLost ++
        [flag a.senseBlind, flag a.linkLoss, flag a.inhibit, flag a.arcLineStuck, flag dropped, word droppedCount,
          word queueLength]
      | .restarted sweep => words32 sweep.toNat) ∧
  ([LaneState.off, .probe, .ramp, .on, .blank, .muted, .lockout].map LaneState.code = [0, 1, 2, 3, 4, 5, 6] ∧
   [RowPhase.idle, .pending, .asserted, .clearing].map RowPhase.code = [0, 1, 2, 3] ∧
   [ZoneState.normal, .blank, .lockout].map ZoneState.code = [0, 1, 2] ∧
   [PointState.valid, .stale, .held, .noValue].map PointState.code = [0, 1, 2, 3] ∧
   [LockoutCause.none, .arc, .probe].map LockoutCause.code = [0, 1, 2] ∧
   [LaneMode.full, .reduced].map LaneMode.code = [0, 1] ∧ [HeadMode.spread, .quad].map HeadMode.code = [0, 1] ∧
   [Phase.setup, .service].map Phase.code = [0, 1] ∧
   [ReplyResult.done, .partialDone, .queueFull, .range, .state, .phaseLocked, .inconsistent, .unknown].map
     ReplyResult.code = [0, 1, 2, 3, 4, 5, 6, 7]) ∧
  ∀ (q : Reply) (draws : Nat) (plan : Option LanePlan) (v : Lane) (causes : List MuteCause),
    q.data = .lane plan v causes →
    let leading : List Word :=
      (match plan with
        | some p => 1 :: p.words
        | none => [0]) ++
      [word v.state.code, flag v.onRequest, word v.mode.code, word v.setpoint, word v.ceiling] ++ words32 v.demand ++
      words32 v.grant ++ [word v.budgetCeiling] ++ words32 v.target ++ words32 v.applied ++
      [word v.probeRemaining, word v.retriesUsed, word v.lockoutCause.code]
    (q.payload draws).length = 64 ∧
      (q.payload draws).take (2 + leading.length) = q.kind :: word q.result.code :: leading

/-- A fall of INHIBIT_N puts INHIBIT into the force-zero set and mutes every lane in PROBE, RAMP, ON or BLANK at once, as a
whole record, each with its lane notice; every other lane stands as it was, an evaluation in progress notes the muted lanes,
and nothing else changes; while INHIBIT is a member already, a fall changes the level alone. A rise takes INHIBIT out of the
set and changes nothing else (R8, R110, R116). The fall that finds INHIBIT a member is log entry 26, the sweep number of an
entry and its notice during an evaluation is log entry 33, and the order of the lanes' notices is log entry 35. -/
def Obligations.InhibitMutesAndReleases : Prop :=
  ∀ s : State, s.inReset = false → s.lanes.length = laneCount → s.multipliers.length = laneCount →
    (s.forceInhibit = false → ∃ t, exec .inhibitNAssert s = .next t ∧ s.LanesMuted t ∧
      State.OnlyLanesAndNotices { s with inhibitLow := true, forceInhibit := true } t) ∧
    (s.forceInhibit = true → exec .inhibitNAssert s = .next { s with inhibitLow := true }) ∧
    exec .inhibitNDeassert s = .next { s with inhibitLow := false, forceInhibit := false }

/-- A fall of ARC_N while unmasked and ARC_LINE absent adds ARC_LINE and records the next launch's sweep number, which
wraps; a fall while ARC_LINE is a member or the mask flag is set changes the level alone. A rise while the mask flag is
set clears it and queues the notice of ARC_LINE_STUCK released; otherwise the level alone changes (R9, R10, R132). The
sweep number of that notice during an evaluation is log entry 33. -/
def Obligations.ArcLineFallsAndRises : Prop :=
  ∀ s : State, s.inReset = false →
    (s.arcMasked = false → s.forceArcLine = false →
      exec .arcNFall s =
        .next { s with arcLow := true, forceArcLine := true, resolvingSweep := s.sweepNumber + 1 }) ∧
    ((s.arcMasked = true ∨ s.forceArcLine = true) → exec .arcNFall s = .next { s with arcLow := true }) ∧
    (s.arcMasked = true →
      exec .arcNRise s =
        .next (State.queueNotice { s with arcLow := false, arcMasked := false }
          { subject := .arcLineStuck, state := .released, value := .none, sweep := s.lastEvaluation, changes := 1 })) ∧
    (s.arcMasked = false → exec .arcNRise s = .next { s with arcLow := false })

/-- A fall of RESET_N leaves the reset values and the pins' levels, with an empty alert set; the release takes the
reset values with the force-zero members and the resolving sweep by the pins, samples PROBE_POL, and raises LINK_LOSS.
The pins, the sample, the draw counter and the queue of the model stand as they were (R15, R181). What the state is
while RESET_N is low is log entry 28, the fields of the model alone are log entry 23. -/
def Obligations.ResetFallAndRelease : Prop :=
  ∀ (s : State) (probePolHigh : Bool),
    (∃ t, exec .resetNAssert s = .next t ∧ t.alertLow = false ∧
      t = { State.reset with
        inReset := true, inhibitLow := s.inhibitLow, arcLow := s.arcLow, probePolHigh := s.probePolHigh
        draws := s.draws, pending := s.pending }) ∧
    (∃ t, exec (.resetNRelease probePolHigh) s = .next t ∧ t.linkLoss = true ∧ t.alertLow = true ∧
      t = { State.reset with
        inReset := false, inhibitLow := s.inhibitLow, arcLow := s.arcLow, probePolHigh
        forceInhibit := s.inhibitLow, forceArcLine := s.arcLow, resolvingSweep := if s.arcLow then 1 else 0
        draws := s.draws, pending := s.pending })

/-- No output sample leaves the range of the input: it lies between 0 and the input sample for every multiplier up to
32768, and multiplier 0 gives 0 (R6). -/
def Obligations.ScaledSampleStaysWithinTheInput : Prop :=
  ∀ (m : Nat) (x : Word), m ≤ 32768 →
    min 0 x.toInt ≤ (scaleSample m x).toInt ∧ (scaleSample m x).toInt ≤ max 0 x.toInt ∧ scaleSample 0 x = 0 ∧
      scaleSample 32768 x = x

/-- The multiplier is the greatest integer whose square does not exceed 16384 × A; it is at most 32768 for every applied
scale, and a lower applied scale never gives a higher one (R5, R92). -/
def Obligations.MultiplierIsTheIntegerSquareRoot : Prop :=
  ∀ a b : Nat,
    multiplierOf a * multiplierOf a ≤ 16384 * a ∧ 16384 * a < (multiplierOf a + 1) * (multiplierOf a + 1) ∧
    (a ≤ 65536 → multiplierOf a ≤ 32768) ∧ (a ≤ b → multiplierOf a ≤ multiplierOf b)

/-! ### Codings -/

/-- Every forward frame, sent as its 68 words, is received as the same frame with a good check (section 11.2, R179). The check
starts at FFFFh and takes each covered word most significant bit first: a shift toward bit 15, then an exclusive OR with 1021h
when the bit shifted out differs from the data bit (R179). That
frames come in as whole events is log entry 21; header bits 9..0 of a DRIVE frame, which the operand holds and the 7210
ignores, are log entry 17. -/
def Obligations.ForwardFrameIsReceivedAsSent : Prop :=
  (∀ f : ForwardFrame, f.WellFormed = true → receiveWords (sentFrame f).words = .goodFrame f) ∧
  crc [] = 0xFFFF#16 ∧
  ∀ (ws : List Word) (w : Word), crc (ws ++ [w]) =
    (List.range 16).foldl
      (fun (r : Word) (i : Nat) =>
        if r.getLsbD 15 = w.getLsbD (15 - i) then r <<< 1 else (r <<< 1) ^^^ 0x1021#16)
      (crc ws)

/-- A sweep frame that has passed a chain of as many heads as its chain length is read back as the heads' records in
position order, and judged valid against its own launch (R18, R20, R21, R23, R24). A return is read exactly when six-word groups
that begin with the record marker 011b, at most 16 of them, stand before a word with the header marker A5h, header B, as many
slots as that header gives and the check, which covers the words from header A to the last slot; the fields of a record stand
at the bits of section 11.5 (R21, R23). That the heads are outside State, as pure functions, is log entry 15. -/
def Obligations.SweepReturnOfAWholeChainIsValid : Prop :=
  (∀ (sweep : SweepNo) (tag : BitVec 4) (slots : List Slot) (heads : List (Head × Sampling)),
    1 ≤ heads.length → heads.length ≤ 16 → slots.length = heads.length →
    judgeReturn { sweep, tag, chainLength := heads.length, slots }
        (passChain heads ((sweepFrame tag heads.length slots).drop 1)) =
      .valid (heads.map fun p => p.1.record p.2)) ∧
  (∀ (ws : List Word) (r : LoopReturn), readReturn ws = some r ↔
    r.records.length ≤ 16 ∧ (∀ x, x ∈ r.records → x.identity.extractLsb' 13 3 = 3#3) ∧
    r.headerA.extractLsb' 8 8 = 0xA5#8 ∧
    ∃ (slots : List Word) (check : Word) (rest : List Word),
      slots.length = (r.headerA.extractLsb' 0 4).toNat + 1 ∧
      (r.checkGood = true ↔ check = crc (r.headerA :: r.headerB :: slots)) ∧
      ws = (r.records.flatMap fun x => [x.identity, x.r0, x.r1, x.r2, x.r3, x.check]) ++
        r.headerA :: r.headerB :: slots ++ check :: rest) ∧
  ∀ x : HeadRecord,
    x.headId = (x.identity.extractLsb' 9 4).toNat ∧ (x.mode = .quad ↔ x.identity.getLsbD 8 = true) ∧
    x.quadInput = (x.identity.extractLsb' 6 2).toNat ∧ x.arcFlag = x.identity.getLsbD 5 ∧
    x.noiseFlag = x.identity.getLsbD 4 ∧ (∀ i, x.overFlag i = x.identity.getLsbD i) ∧
    x.reading 0 = x.r0.toNat ∧ x.reading 1 = x.r1.toNat ∧ x.reading 2 = x.r2.toNat ∧ x.reading 3 = x.r3.toNat ∧
    (x.checkGood = true ↔ x.check = crc [x.identity, x.r0, x.r1, x.r2, x.r3])

/-- An entry that a LOAD accepts, written in the coding in which a reply carries it, loads again as the same entry:
for all seven parts and the site record (section 11.3). So does every entry whose fields lie in their ranges (R38, R53, R54,
R79, R95, R120, R153), so that a LOAD can spell each of them, but for 65535 in the two fields of log entry 19. The words of each part's entry
stand place by place: an enumerated field by its place in its list, a scope in two words, a wide value high word first, and none
as all ones (section 11.3). The codes and widths of single fields are log entries 9 to 12 and 19, and that a flag is 1 or 0 is
log entry 13. -/
def Obligations.LoadedEntriesReadBackInTheirCoding : Prop :=
  ((∀ n, word n = BitVec.ofNat 16 n) ∧ (∀ n, words32 n = [BitVec.ofNat 16 (n / 65536), BitVec.ofNat 16 n]) ∧
   flag true = 1 ∧ flag false = 0 ∧
   wordOrNone none = 0xFFFF ∧ (∀ n, wordOrNone (some n) = BitVec.ofNat 16 n) ∧
   words32OrNone none = [0xFFFF, 0xFFFF] ∧ (∀ n, words32OrNone (some n) = words32 n) ∧
   (∀ (count : Nat) (members : List Nat), (setWords count members).length = count ∧
     ∀ k, k < 16 * count → (((setWords count members).getD (k / 16) 0).getLsbD (k % 16) = true ↔ k ∈ members))) ∧
  ((∀ l, (Scope.lane l).words = [0, word l]) ∧ (∀ z, (Scope.zone z).words = [1, word z]) ∧ Scope.site.words = [2, 0] ∧
   (∀ z, (ArcScope.zone z).words = [1, word z]) ∧ ArcScope.site.words = [2, 0] ∧ ArcScope.none.words = [3, 0] ∧
   (∀ e : PointEntry, e.words =
     (match e.kind with
       | .fwd => 0
       | .ref => 1
       | .ratio => 2
       | .temp => 3
       | .flow => 4
       | .level => 5) :: e.scope.words ++
     match e.source with
       | .ratio forward reflected => [word forward, word reflected]
       | .head position input fold gain offset =>
         [word position, word input, match fold with
           | .peak => 0
           | .trough => 1
           | .mean => 2
           | .last => 3, word gain, BitVec.ofInt 16 offset]) ∧
   (∀ e : HeadEntry, e.words =
     [match e.expectedId with
       | some id => word id
       | none => 16, if e.mode = .quad then 1 else 0, word e.quadInput] ++ e.arcScope.words) ∧
   (∀ e : Curve, curveWords e = word e.length :: e.flatMap fun p => [word p.x, word p.y]) ∧
   (∀ e : RowEntry, e.words =
     [word e.source, if e.sense = .above then 0 else 1, word e.threshold, word e.release, word e.qualifyCount,
       word e.releaseCount, match e.action with
         | .note => 0
         | .ceiling => 1
         | .mute => 2
         | .arc => 3] ++
     (match e.ceiling with
       | some (.fixed v) => [0, word v]
       | some (.curve c) => [1, word c]
       | none => [0xFFFF, 0xFFFF]) ++ e.scope.words ++
     [if e.latch = .latch then 1 else 0, if e.report = .alert then 0 else 1, if e.gated then 0 else 1,
       if e.scaled then 0 else 1]) ∧
   (∀ e : ZoneEntry, e.words = [word e.zone]) ∧
   (∀ e : LanePlan, e.words =
     word e.ratedWatts :: words32 e.pcal ++ [wordOrNone e.ratioPoint] ++
     (match e.budgetClass with
       | .strict rank => [0, word rank]
       | .weighted weight => [1, word weight]) ++
     [word e.reducedLevel, word e.rampRate, match e.probePolicy with
       | .followStrap => 0
       | .always => 1
       | .afterFault => 2]) ∧
   (∀ e : Parameters, e.words =
     [word e.blindCeiling, word e.blindMuteCount, word e.headLossLimit, wordOrNone e.budgetPoint, word e.budgetCurve,
       word e.arcWindow, word e.arcLimit, word e.blankingCount, word e.restrikeLevel, word e.probeLevel,
       word e.probeLength, word e.probeRatioLimit, word e.probeRetries, word e.snapshotInterval]) ∧
   ∀ e : SiteRecord, e.words =
     [word e.lanes, word e.zones, word e.heads, word e.sweepPeriod, word e.failLimit, word e.ratioFloor] ++
     words32 e.siteMaximum) ∧
  (∀ f : List Word,
    (∀ e, parsePoint f = some e → parsePoint e.words = some e) ∧
    (∀ e, parseHead f = some e → parseHead e.words = some e) ∧
    (∀ e, parseCurve f = some e → parseCurve (curveWords e) = some e) ∧
    (∀ e, parseRow f = some e → parseRow e.words = some e) ∧
    (∀ e, parseZone f = some e → parseZone e.words = some e) ∧
    (∀ e, parseLanePlan f = some e → parseLanePlan e.words = some e) ∧
    (∀ e, parseParameters f = some e → parseParameters e.words = some e) ∧
    (∀ e, parseSite f = some e → parseSite e.words = some e)) ∧
  (∀ e : PointEntry, e.InRange → parsePoint e.words = some e) ∧
  (∀ e : HeadEntry, e.InRange → parseHead e.words = some e) ∧
  (∀ e : Curve, e.InRange → parseCurve (curveWords e) = some e) ∧
  (∀ e : RowEntry, e.InRange → parseRow e.words = some e) ∧
  (∀ e : ZoneEntry, e.InRange → parseZone e.words = some e) ∧
  (∀ e : LanePlan, e.InRange → parseLanePlan e.words = some e) ∧
  ∀ e : Parameters, e.InRange → e.arcWindow ≠ 65535 → e.snapshotInterval ≠ 65535 → parseParameters e.words = some e

/-! ### The sense loop -/

/-- A tick with no sweep in flight launches: the next sweep number, its in-flight record, the sweep frame and the count,
and the running interval takes the period of this moment; nothing else changes (R17, R18). A slot word holds the command code in
bits 15..14, the mode in bit 8 and the quad input in bits 1..0, and 0 elsewhere (section 11.5, R180). -/
def Obligations.TickLaunchesASweep : Prop :=
  (Slot.nop.word = 0 ∧ ∀ mode quad, quad ≤ 3 →
    (Slot.setMode mode quad).word = 0x4000#16 + (if mode = .quad then 0x0100#16 else 0) + BitVec.ofNat 16 quad) ∧
  ∀ (s : State) (during : During), s.inReset = false → s.evaluation = none → s.inFlight = none →
    let sweep : SweepNo := s.sweepNumber + 1
    let tag : BitVec 4 := sweep.setWidth 4
    let slots : List Slot := (List.range s.siteRecord.heads).map s.slotFor
    let a : Word := 0xA5#8 ++ tag ++ BitVec.ofNat 4 (s.siteRecord.heads - 1)
    let covered : List Word := a :: ~~~a :: slots.map Slot.word
    exec (.sweepTick during) s =
      .next { s with
        intervalPeriod := s.siteRecord.sweepPeriod
        sweepNumber := sweep
        inFlight := some { sweep, tag, chainLength := s.siteRecord.heads, slots }
        loopOutput := some (0x2CB5#16 :: covered ++ [crc covered])
        sweepStatistics := { s.sweepStatistics with launched := min 4294967295 (s.sweepStatistics.launched + 1) } }

/-- A launch fills command slot k, for k below N, with SET_MODE of the entry's mode and quad input when the entry is
defined and differs from the reported mode, and with NOP otherwise; a SET_MODE for SPREAD carries quad input 0 (R19). -/
def Obligations.SlotCommandsTheEntrysMode : Prop :=
  ∀ (s : State) (k : Nat),
    (∃ f, s.launch.inFlight = some f ∧ f.slots.length = s.siteRecord.heads ∧
      (k < s.siteRecord.heads → f.slots[k]? = some (s.slotFor k))) ∧
    (s.activeSet.head k = none → s.slotFor k = .nop) ∧
    (∀ e, s.activeSet.head k = some e →
      (s.reportedMode k = none →
        s.slotFor k = .setMode e.mode (if e.mode = .quad then e.quadInput else 0)) ∧
      (∀ m, s.reportedMode k = some m → e.mode ≠ m.mode →
        s.slotFor k = .setMode e.mode (if e.mode = .quad then e.quadInput else 0)) ∧
      (∀ m, s.reportedMode k = some m → e.mode = .spread → m.mode = .spread → s.slotFor k = .nop) ∧
      (∀ m, s.reportedMode k = some m → e.mode = .quad → m.mode = .quad →
        s.slotFor k = if e.quadInput = m.quadInput then .nop else .setMode .quad e.quadInput))

/-- A tick that finds a sweep in flight closes it with TIMEOUT, runs its evaluation to the end, and then launches the
next sweep number (R17, R26, R27). With no event meanwhile the next state is whole, whatever commands are held: the seven
stages of a failed sweep in order, the evaluation's end, the launch, and then the held commands that can be taken, so the failure
is counted and SENSE_BLIND and BLIND_MUTE follow it (R31, R32, R168). With no command held, or with an activation that still
waits at the head of them, the next state is the launch itself (R157, R168). The order at such a tick is log entry 6, the events
meanwhile are log entry 16. -/
def Obligations.TickTimesOutTheSweepInFlight : Prop :=
  ∀ (s : State) (during : During) (f : InFlight), s.inReset = false → s.evaluation = none → s.inFlight = some f →
    ∃ t, exec (.sweepTick during) s = .next t ∧
      t.sweepStatistics.timeouts = min 4294967295 (s.sweepStatistics.timeouts + 1) ∧
      t.sweepStatistics.launched = min 4294967295 (s.sweepStatistics.launched + 1) ∧
      t.lastEvaluation = f.sweep ∧ t.evaluation = none ∧ t.sweepNumber = s.sweepNumber + 1 ∧
      t.intervalPeriod = s.siteRecord.sweepPeriod ∧
      (during = [] →
        let closed : State := { s with
          intervalPeriod := s.siteRecord.sweepPeriod, inFlight := none
          sweepStatistics := { s.sweepStatistics with timeouts := min 4294967295 (s.sweepStatistics.timeouts + 1) } }
        let failures : Nat := min 65535 (s.consecutiveFailures + 1)
        let launched : State := (closed.sevenStages f.sweep none).endEvaluation.launch
        t = launched.drainCommands ∧
        ((s.commands = [] ∨ launched.waiting.isSome = true) → t = launched) ∧
        launched.consecutiveFailures = failures ∧
        launched.senseBlind = (s.senseBlind || decide (s.siteRecord.failLimit ≤ failures)) ∧
        launched.blindMute =
          (s.blindMute || decide (s.siteRecord.failLimit + s.activeSet.parameters.blindMuteCount ≤ failures)) ∧
        ∃ g, launched.inFlight = some g ∧ g.sweep = s.sweepNumber + 1)

/-- A return with no sweep in flight, and one with a good frame check whose tag is not that of the sweep in flight, are
LATE: the statistic rises and nothing else changes (R24, R25). -/
def Obligations.LateReturnOnlyCounts : Prop :=
  ∀ (s : State) (words : List Word) (during : During), s.inReset = false →
    (s.inFlight = none ∨
      ∃ f r, s.inFlight = some f ∧ readReturn words = some r ∧ r.checkGood = true ∧ r.headerA.extractLsb' 4 4 ≠ f.tag) →
    exec (.sweepReturn words during) s =
      .next { s with
        sweepStatistics := { s.sweepStatistics with late := min 4294967295 (s.sweepStatistics.late + 1) } }

/-- A return that is not LATE closes the sweep in flight by the first line of the table that applies, raises that
failure's statistic alone among the four, and leaves the evaluation of that sweep in progress, its failure counted or the
count ended (R24, R27, R31). With no event meanwhile the next state is the seven stages in order, from the closed sweep and
with its records when it is valid (R27). An event taken meanwhile is taken by the block that owns it as at any other time: one
that comes after the last stage does what its own row does there (R27). That the evaluation stays in progress, and the places of
the events meanwhile, are log entry 16. -/
def Obligations.ReturnClosesTheSweep : Prop :=
  (∀ (s u : State) (words : List Word) (during : During) (f : InFlight) (e : MidEvent), s.inReset = false →
    s.inFlight = some f → judgeReturn f words ≠ .late → exec (.sweepReturn words during) s = .next u →
    exec (.sweepReturn words (during ++ [(.snapshotCount, e)])) s = exec (eventRow e) u) ∧
  ∀ (s : State) (words : List Word) (during : During) (f : InFlight), s.inReset = false → s.inFlight = some f →
    judgeReturn f words ≠ .late →
    ∃ t, exec (.sweepReturn words during) s = .next t ∧
      t.inFlight = none ∧ t.evaluation.isSome = true ∧ t.lastEvaluation = f.sweep ∧ t.sweepNumber = s.sweepNumber ∧
      t.sweepStatistics.timeouts = s.sweepStatistics.timeouts ∧
      t.sweepStatistics.launched = s.sweepStatistics.launched ∧
      t.sweepStatistics.frameChecks =
        (if readReturn words = none ∨ (∃ r, readReturn words = some r ∧ r.checkGood = false) then
          min 4294967295 (s.sweepStatistics.frameChecks + 1) else s.sweepStatistics.frameChecks) ∧
      t.sweepStatistics.headerMismatches =
        (if ∃ r, readReturn words = some r ∧ r.checkGood = true ∧
            (r.headerB ≠ ~~~r.headerA ∨ (r.headerA.extractLsb' 0 4).toNat + 1 ≠ f.chainLength) then
          min 4294967295 (s.sweepStatistics.headerMismatches + 1) else s.sweepStatistics.headerMismatches) ∧
      t.sweepStatistics.countMismatches =
        (if ∃ r, readReturn words = some r ∧ r.checkGood = true ∧ r.headerB = ~~~r.headerA ∧
            (r.headerA.extractLsb' 0 4).toNat + 1 = f.chainLength ∧ r.records.length ≠ f.chainLength then
          min 4294967295 (s.sweepStatistics.countMismatches + 1) else s.sweepStatistics.countMismatches) ∧
      (∀ records, judgeReturn f words = .valid records → t.consecutiveFailures = 0) ∧
      ((∀ records, judgeReturn f words ≠ .valid records) →
        t.consecutiveFailures = min 65535 (s.consecutiveFailures + 1)) ∧
      (during = [] →
        (∀ records, judgeReturn f words = .valid records →
          t = State.sevenStages { s with inFlight := none } f.sweep (some records)) ∧
        ((∀ records, judgeReturn f words ≠ .valid records) →
          t = State.sevenStages { s with inFlight := none, sweepStatistics := t.sweepStatistics } f.sweep none))

/-- At classification a failed sweep raises the count of failures, SENSE_BLIND at the fail limit with its notice, and
BLIND_MUTE at the fail limit plus the blind mute count, and changes nothing else; a valid sweep ends all three, and a raised
SENSE_BLIND is released with its notice, the one notice of the stage where no HEAD_LOST changes (R31, R32, R173). -/
def Obligations.FailureCountRaisesAndReleasesBlindness : Prop :=
  ∀ (s : State) (sweep : SweepNo) (records : List HeadRecord),
    (let t := (classify sweep none s).1
     let n : Nat := min 65535 (s.consecutiveFailures + 1)
     t.consecutiveFailures = n ∧
     t.senseBlind = (s.senseBlind || decide (s.siteRecord.failLimit ≤ n)) ∧
     t.blindMute =
       (s.blindMute || decide (s.siteRecord.failLimit + s.activeSet.parameters.blindMuteCount ≤ n)) ∧
     (s.senseBlind = false → s.siteRecord.failLimit ≤ n →
       t.NoticesOf (s.queuing [{ subject := .senseBlind, state := .raised, value := .number n, sweep, changes := 1 }])) ∧
     ((s.senseBlind = true ∨ n < s.siteRecord.failLimit) → t.NoticesOf s) ∧
     t = { s with
       consecutiveFailures := t.consecutiveFailures, senseBlind := t.senseBlind, blindMute := t.blindMute
       notices := t.notices, noticesDropped := t.noticesDropped, droppedCount := t.droppedCount }) ∧
    (let t := (classify sweep (some records) s).1
     t.consecutiveFailures = 0 ∧ t.senseBlind = false ∧ t.blindMute = false ∧
     (s.headLost.length = headCount → (∀ k, k < headCount → t.isHeadLost k = s.isHeadLost k) →
       (s.senseBlind = true → t.NoticesOf
         (s.queuing [{ subject := .senseBlind, state := .released, value := .number 0, sweep, changes := 1 }])) ∧
       (s.senseBlind = false → t.NoticesOf s)))

/-- At a valid sweep a record is stale when its check fails or it disagrees with the defined entry of its position, a
stale record raises its position's stale count, a fresh one and a position beyond the chain set it to 0, and HEAD_LOST
follows the head loss limit. A record with a good check, stale or fresh, sets its position's reported mode, and any other
position keeps it; the fresh records alone are handed on. The stage queues the notice of SENSE_BLIND released, when it was
raised, and then one for each HEAD_LOST that is raised or released, in ascending position, with the stale count; nothing else
changes (R27 to R30, R33, R34, R175). -/
def Obligations.HeadLostFollowsTheStaleCounts : Prop :=
  ∀ (s : State) (sweep : SweepNo) (records : List HeadRecord) (k : Nat),
    s.staleCounts.length = headCount → s.headLost.length = headCount → k < headCount →
    let t := (classify sweep (some records) s).1
    (∀ changed : List Nat, changed.Pairwise (· < ·) →
      (∀ j, j ∈ changed ↔ j < headCount ∧ t.isHeadLost j ≠ s.isHeadLost j) →
      t.NoticesOf (s.queuing
        ((if s.senseBlind then
          [{ subject := .senseBlind, state := .released, value := .number 0, sweep, changes := 1 }] else []) ++
        changed.map fun j =>
          { subject := .headLost j, state := if t.isHeadLost j then .raised else .released
            value := .number (t.staleCount j), sweep, changes := 1 }))) ∧
    t = { s with
      reportedModes := t.reportedModes, consecutiveFailures := 0, senseBlind := false, blindMute := false
      staleCounts := t.staleCounts, headLost := t.headLost, notices := t.notices
      noticesDropped := t.noticesDropped, droppedCount := t.droppedCount } ∧
    (∀ r, records[k]? = some r → recordStale (s.activeSet.head k) r = true →
      t.staleCount k = min 255 (s.staleCount k + 1) ∧
      t.isHeadLost k =
        (s.isHeadLost k || decide (s.activeSet.parameters.headLossLimit ≤ min 255 (s.staleCount k + 1)))) ∧
    (∀ r, records[k]? = some r → recordStale (s.activeSet.head k) r = false →
      t.staleCount k = 0 ∧ t.isHeadLost k = false) ∧
    (records[k]? = none → t.staleCount k = 0 ∧ t.isHeadLost k = false) ∧
    (s.reportedModes.length = headCount →
      (∀ r, records[k]? = some r → r.checkGood = true →
        t.reportedMode k = some { mode := r.mode, quadInput := r.quadInput }) ∧
      ((∀ r, records[k]? = some r → r.checkGood = false) → t.reportedMode k = s.reportedMode k)) ∧
    (∀ r, (classify sweep (some records) s).2.record k = some r ↔
      records[k]? = some r ∧ recordStale (s.activeSet.head k) r = false) ∧
    (∀ e r, recordStale e r = true ↔ r.checkGood = false ∨ ∃ d, e = some d ∧
      ((∃ id, d.expectedId = some id ∧ id ≠ r.headId) ∨ d.mode ≠ r.mode ∨
        (d.mode = .quad ∧ d.quadInput ≠ r.quadInput)))

/-! ### Points, rows and curves -/

/-- With no fresh record of its own head position, as after every failed sweep, a point that reads a head keeps its value as
STALE, or stays NO_VALUE, without markers, and so does a RATIO point that has such a point as either source. On a fresh
record a point that reads a head takes
the raw reading of its input, folded in QUAD, as floor(raw × gain / 4096) + offset clamped to 0..the kind maximum, or the
kind maximum with OVER when a flag considered is set, and is NOISY with the record's noise flag; an input that a QUAD
record does not sample leaves it as with no fresh record (R39 to R43, R46). -/
def Obligations.FailedSweepLeavesPointsStale : Prop :=
  (∀ (s : State) (c : Classified) (i : Nat) (e : PointEntry) (p : PointRecord),
    s.activeSet.point i = some e → s.pointRecord i = some p →
    ((∃ position input fold gain offset, e.source = .head position input fold gain offset ∧ c.record position = none) ∨
      (∃ f g j d position input fold gain offset, e.source = .ratio f g ∧ (j = f ∨ j = g) ∧
        s.activeSet.point j = some d ∧ d.source = .head position input fold gain offset ∧ c.record position = none)) →
    (pointStage c s).pointRecord i =
      some { state := if p.value.isSome then .stale else .noValue, value := p.value, overRange := false, noisy := false }) ∧
  ∀ (s : State) (c : Classified) (i : Nat) (e : PointEntry) (p : PointRecord) (r : HeadRecord)
    (position input gain : Nat) (fold : Fold) (offset : Int),
    s.activeSet.point i = some e → s.pointRecord i = some p → e.source = .head position input fold gain offset →
    c.record position = some r →
    let greatest : Nat := match e.kind with
      | .fwd => 2000
      | .ref => 2000
      | .ratio => 10000
      | .temp => 2500
      | .flow => 10000
      | .level => 65535
    (∀ raw overRange, Obtained r input fold raw overRange →
      let converted : Int := ((raw * gain / 4096 : Nat) : Int) + offset
      (pointStage c s).pointRecord i = some
        { state := .valid
          value := some (if overRange then greatest else (max 0 (min (greatest : Int) converted)).toNat)
          overRange, noisy := r.noiseFlag }) ∧
    (r.mode = .quad → r.quadInput ≠ input →
      (pointStage c s).pointRecord i =
        some { state := if p.value.isSome then .stale else .noValue, value := p.value, overRange := false, noisy := false })

/-- A RATIO point whose sources are both VALID takes min(10000, floor(10000 × R / F)) at or above the ratio floor, and
below it is HELD at its value or stays NO_VALUE, with its sources' markers; a source in any other state leaves it STALE
at its value or NO_VALUE. In the point update each defined RATIO point is so computed from the records that this update
gave its own entry's forward and reflected points, at the site's ratio floor (R40, R44 to R47). -/
def Obligations.RatioIsComputedHeldOrStale : Prop :=
  (∀ (floor f g : Nat) (forward reflected p : PointRecord),
    (forward.state = .valid → forward.value = some f → reflected.state = .valid → reflected.value = some g →
      (floor ≤ f → ratioPoint floor forward reflected p =
        { state := .valid, value := some (min 10000 (10000 * g / f))
          overRange := forward.overRange || reflected.overRange, noisy := forward.noisy || reflected.noisy }) ∧
      (f < floor → ∀ v, p.value = some v → ratioPoint floor forward reflected p =
        { state := .held, value := some v
          overRange := forward.overRange || reflected.overRange, noisy := forward.noisy || reflected.noisy }) ∧
      (f < floor → p.value = none → ratioPoint floor forward reflected p =
        { state := .noValue, value := none, overRange := false, noisy := false })) ∧
    ((forward.state ≠ .valid ∨ reflected.state ≠ .valid) → ratioPoint floor forward reflected p =
      { state := if p.value.isSome then .stale else .noValue, value := p.value, overRange := false, noisy := false })) ∧
  ∀ (s : State) (c : Classified) (i f g : Nat) (e : PointEntry) (p : PointRecord),
    s.activeSet.point i = some e → e.source = .ratio f g → s.pointRecord i = some p →
    (∀ j d, j = f ∨ j = g → s.activeSet.point j = some d → ∀ a b, d.source ≠ .ratio a b) →
    (pointStage c s).pointRecord i = some
      (ratioPoint s.siteRecord.ratioFloor ((pointStage c s).pointOrNone f) ((pointStage c s).pointOrNone g) p)

/-- A row whose source is not VALID, or is NOISY, or whose gating is not satisfied by its scope, is frozen: it keeps its whole
runtime through row advance and queues no notice. Any other row with a VALID source advances at its value, with the outcome
of the comparison with its effective threshold and release, scaled in REDUCED mode; an ALERT row whose advance asserts it or
releases it has its notice. An undefined row is left as it is, and the stage changes nothing but the runtimes and the notice
queue, where the notices stand in ascending row index (R56 to R59, R70). What an advance does to a runtime is said in the next
two statements. That a scaled row of a lane without a plan entry, which no checked plan has, compares unscaled is log
entry 1. -/
def Obligations.FrozenRowKeepsItsRuntime : Prop :=
  ∀ (s : State) (sweep : SweepNo),
    let t := (rowStage sweep s).1
    (∀ (r : Nat) (d : RowEntry) (q : RowRuntime), s.activeSet.row r = some d → s.rowRuntime r = some q →
      (((s.pointOrNone d.source).state ≠ .valid ∨ (s.pointOrNone d.source).noisy = true ∨ ¬ s.GatingHolds d) →
        t.rowRuntime r = some q ∧ s.rowStepNotice sweep r = none) ∧
      (∀ v o, s.Advances d v o →
        let p := advanceRow s.activeSet sweep d q v o
        t.rowRuntime r = some p.1 ∧
        (d.report = .alert → p.2 ≠ .none → s.rowStepNotice sweep r = some
          { subject := .row r, state := .row p.1.phase p.1.latched, value := .number v, sweep, changes := 1 }) ∧
        ((d.report = .quiet ∨ p.2 = .none) → s.rowStepNotice sweep r = none))) ∧
    (∀ r, (s.activeSet.row r = none ∨ s.rowRuntime r = none) →
      t.rowRuntime r = s.rowRuntime r ∧ s.rowStepNotice sweep r = none) ∧
    t = { s with
      rowRuntimes := t.rowRuntimes, notices := t.notices, noticesDropped := t.noticesDropped
      droppedCount := t.droppedCount } ∧
    t.NoticesOf (s.queuing ((List.range 48).filterMap (s.rowStepNotice sweep)))

/-- The phase machine, line by line: what a crossing and its absence do in IDLE and PENDING, and a release and its
absence in ASSERTED and CLEARING. So exactly the qualify count of crossings in a row asserts a row from IDLE, and exactly
the release count of releases in a row returns it from ASSERTED. An advance moves the phase and the progress count by it,
takes the value into the extreme, and leaves the ceiling in force of the row's fixed ceiling or its curve; a latched row that
ends IDLE or PENDING keeps the ceiling in force of its curve. Only an assertion
sets latched, seen, the count and the first sweep (R60, R61, R63, R64, R66). -/
def Obligations.RowMovesByItsCounts : Prop :=
  ∀ (d : RowEntry) (n : Nat) (o : Outcome),
    (o = .crossing →
      phaseStep d .idle n o = (if d.qualifyCount ≤ 1 then (.asserted, 0, .asserted) else (.pending, 1, .none)) ∧
      phaseStep d .pending n o =
        (if d.qualifyCount ≤ n + 1 then (.asserted, 0, .asserted) else (.pending, n + 1, .none))) ∧
    (o ≠ .crossing → phaseStep d .idle n o = (.idle, 0, .none) ∧ phaseStep d .pending n o = (.idle, 0, .none)) ∧
    (o = .release →
      phaseStep d .asserted n o = (if d.releaseCount ≤ 1 then (.idle, 0, .released) else (.clearing, 1, .none)) ∧
      phaseStep d .clearing n o =
        (if d.releaseCount ≤ n + 1 then (.idle, 0, .released) else (.clearing, n + 1, .none))) ∧
    (o ≠ .release →
      phaseStep d .asserted n o = (.asserted, 0, .none) ∧ phaseStep d .clearing n o = (.asserted, 0, .none)) ∧
    (1 ≤ d.qualifyCount →
      (1 ≤ n → n < d.qualifyCount → phaseAfter d .crossing n (.idle, 0) = (.pending, n)) ∧
      (n = d.qualifyCount → phaseAfter d .crossing n (.idle, 0) = (.asserted, 0))) ∧
    (1 ≤ d.releaseCount →
      (1 ≤ n → n < d.releaseCount → phaseAfter d .release n (.asserted, 0) = (.clearing, n)) ∧
      (n = d.releaseCount → phaseAfter d .release n (.asserted, 0) = (.idle, 0))) ∧
    (∀ (t : TableSet) (sweep : SweepNo) (q : RowRuntime) (v : Nat),
      let step := phaseStep d q.phase q.progress o
      let w := (advanceRow t sweep d q v o).1
      let effective : Prop := w.phase = .asserted ∨ w.phase = .clearing ∨ w.latched = true
      w.phase = step.1 ∧ w.progress = step.2.1 ∧ (advanceRow t sweep d q v o).2 = step.2.2 ∧
      w.extreme = some (match q.extreme, d.sense with
        | none, _ => v
        | some x, .above => max x v
        | some x, .below => min x v) ∧
      (step.2.2 ≠ .asserted →
        w.latched = q.latched ∧ w.seen = q.seen ∧ w.assertions = q.assertions ∧ w.firstSweep = q.firstSweep) ∧
      ((d.ceiling = none ∨ ¬ effective) → w.ceilingInForce = none) ∧
      (∀ c, d.ceiling = some (.fixed c) → effective → w.ceilingInForce = some c) ∧
      (∀ c curve, d.ceiling = some (.curve c) → t.curve c = some curve →
        ((w.phase = .asserted ∨ w.phase = .clearing) → w.ceilingInForce = some (curveValue curve v)) ∧
        ((w.phase = .idle ∨ w.phase = .pending) → w.latched = true → w.ceilingInForce = q.ceilingInForce)))

/-- At an assertion a row sets seen, counts the assertion up to 65535, records the sweep, sets latched for a LATCH row
and keeps it otherwise, and takes the value into its extreme; a fixed CEILING row takes its ceiling in force (R62, R63,
R66). -/
def Obligations.AssertionRecordsItself : Prop :=
  ∀ (t : TableSet) (sweep : SweepNo) (d : RowEntry) (q : RowRuntime) (v : Nat) (o : Outcome),
    (phaseStep d q.phase q.progress o).2.2 = .asserted →
    let w := (advanceRow t sweep d q v o).1
    w.phase = .asserted ∧ w.progress = 0 ∧ w.seen = true ∧ w.firstSweep = some sweep ∧
    w.assertions = min 65535 (q.assertions + 1) ∧ w.latched = (q.latched || d.latch == .latch) ∧
    w.extreme = some (match q.extreme, d.sense with
      | none, _ => v
      | some x, .above => max x v
      | some x, .below => min x v) ∧
    (∀ c, d.ceiling = some (.fixed c) → w.ceilingInForce = some c) ∧
    (∀ c curve, d.ceiling = some (.curve c) → t.curve c = some curve → w.ceilingInForce = some (curveValue curve v))

/-- A curve with strictly ascending x gives y0 at or below x0, the last y at or above the last x, the interpolation
rounded down on each segment between, and always a value between the least and the greatest y (R80, R81). -/
def Obligations.CurveInterpolatesWithinItsBreakpoints : Prop :=
  ∀ (curve : Curve) (v : Nat), 2 ≤ curve.length → curve.Pairwise (fun p q => p.x < q.x) →
    (∀ p, curve.head? = some p → v ≤ p.x → curveValue curve v = p.y) ∧
    (∀ p, curve.getLast? = some p → p.x ≤ v → curveValue curve v = p.y) ∧
    (∀ k p q, curve[k]? = some p → curve[k + 1]? = some q → p.x ≤ v → v < q.x →
      (curveValue curve v : Int) = (p.y : Int) + ((q.y : Int) - p.y) * ((v : Int) - p.x) / ((q.x : Int) - p.x)) ∧
    (∃ p ∈ curve, p.y ≤ curveValue curve v) ∧ (∃ p ∈ curve, curveValue curve v ≤ p.y)

/-! ### Zones -/

/-- At step 3 an arc that finds its zone NORMAL is appended to the pruned history and puts the zone into LOCKOUT when
the history reaches the arc limit, and otherwise into BLANK for the blanking count; any other zone is only pruned (R125
to R127, R129). The entry into BLANK moves each member lane in neither OFF nor LOCKOUT to BLANK, where a lane in PROBE owes
its probe, and an evaluation in progress keeps for step 2 the state each moved lane held when the stage began (R82, R113); the
lane stands in BLANK from then on by log entry 34. It returns the zone's ARC rows, of its scope or of a member lane, to IDLE
with progress 0 and the rest of their runtimes kept, and queues the zone's notice and then the release notices that the
effective ALERT rows among them owe, in ascending row index by log entry 38 (R69, R70, R134). Nothing else changes. The zones
that receive an arc from head flags are those below Z that the arc scope of a fresh record's defined entry reaches (R122), and
from rows those below Z that the scope of an ARC row that asserts in this evaluation's row advance reaches (R65, R68). -/
def Obligations.ArcIsJudgedByTheZonesState : Prop :=
  ∀ (s : State) (sweep : SweepNo) (arcs : List Nat) (z : Nat), z < s.zones.length →
    let q := s.activeSet.parameters
    let kept : List SweepNo := (s.zone z).arcHistory.filter fun e => decide ((sweep - e).toNat < q.arcWindow)
    let t := judgeZone sweep arcs z s
    let after := t.zone z
    let zoneNotice (state : ZoneState) : Notice :=
      { subject := .zone z, state := .zone state, value := .number (kept.length + 1), sweep, changes := 1 }
    let moved (l : Nat) : Prop :=
      l < s.siteRecord.lanes ∧ s.activeSet.zoneOf l = some z ∧ (s.lane l).state ≠ .off ∧ (s.lane l).state ≠ .lockout
    (z ∈ arcs → (s.zone z).state = .normal →
      (q.arcLimit ≤ kept.length + 1 →
        after = { state := .lockout, blankRemaining := 0, arcHistory := kept ++ [sweep] } ∧
        t.NoticesOf (s.queuing [zoneNotice .lockout])) ∧
      (kept.length + 1 < q.arcLimit →
        after = { state := .blank, blankRemaining := q.blankingCount, arcHistory := kept ++ [sweep] })) ∧
    ((z ∉ arcs ∨ (s.zone z).state ≠ .normal) → after = { s.zone z with arcHistory := kept } ∧ t.NoticesOf s) ∧
    (z ∈ arcs → (s.zone z).state = .normal → kept.length + 1 < q.arcLimit →
      (∀ l, l < s.lanes.length →
        let v := s.lane l
        (moved l → t.lane l = { v with
          state := .blank, restriking := false, probeOwed := v.probeOwed || v.state == .probe
          probeRemaining := if v.state = .probe then 0 else v.probeRemaining }) ∧
        (¬ moved l → t.lane l = v)) ∧
      (∀ e, s.evaluation = some e → ∃ m, t.evaluation = some { e with movedFrom := m } ∧
        ∀ l, l < e.movedFrom.length →
          (moved l → m.getD l none = some (if (s.lane l).restriking then .blank else (s.lane l).state)) ∧
          (¬ moved l → m.getD l none = e.movedFrom.getD l none)) ∧
      (∀ r x, s.ReturnsRow z r → s.rowRuntime r = some x →
        t.rowRuntime r = some { x with phase := .idle, progress := 0 }) ∧
      (∀ r, (¬ s.ReturnsRow z r ∨ s.rowRuntime r = none) → t.rowRuntime r = s.rowRuntime r) ∧
      (∀ owed : List (Nat × Bool × Option Nat), (owed.map (·.1)).Pairwise (· < ·) →
        (∀ r b v, (r, b, v) ∈ owed ↔ s.OwesReturnNotice z r b v) →
        t.NoticesOf (s.queuing (zoneNotice .blank :: owed.map fun x =>
          { subject := .row x.1, state := .row .idle x.2.1, value := NoticeValue.ofOption x.2.2, sweep, changes := 1 })))) ∧
    ((z ∉ arcs ∨ (s.zone z).state ≠ .normal ∨ q.arcLimit ≤ kept.length + 1) →
      t.lanes = s.lanes ∧ t.evaluation = s.evaluation ∧ t.rowRuntimes = s.rowRuntimes) ∧
    (∀ k, k ≠ z → t.zone k = s.zone k) ∧ (s.evaluation = none → t.evaluation = none) ∧
    t = { s with
      zones := t.zones, lanes := t.lanes, rowRuntimes := t.rowRuntimes, evaluation := t.evaluation
      notices := t.notices, noticesDropped := t.noticesDropped, droppedCount := t.droppedCount } ∧
    (∀ c : Classified, z ∈ s.headArcZones c ↔ z < s.siteRecord.zones ∧ ∃ k r e,
      k < headCount ∧ c.record k = some r ∧ r.arcFlag = true ∧ s.activeSet.head k = some e ∧
      (e.arcScope = .zone z ∨ e.arcScope = .site)) ∧
    (z ∈ (rowStage sweep s).2 ↔ z < s.siteRecord.zones ∧ ∃ r d x v o,
      r < rowCount ∧ s.activeSet.row r = some d ∧ s.rowRuntime r = some x ∧ d.action = .arc ∧ s.Advances d v o ∧
      (phaseStep d x.phase x.progress o).2.2 = .asserted ∧ d.scope.ReachesZone s.activeSet z)

/-- Step 1 of the zone stage counts each zone below Z that is in BLANK down by 1, and a zone that reaches 0 ends its blanking:
it enters NORMAL with its history kept and its notice, in ascending zone number, and its members in BLANK become restriking RAMP
lanes; nothing else changes (R124, R128, R134). The end of a zone's blanking as one event: the zone enters NORMAL with its history kept, its members in BLANK become restriking
RAMP lanes with their scales as they were, every other lane is as it was, and no row or point changes; a zone that is
not at the last evaluation of its blanking is left as it is. The zone's notice is queued, and then those of the lanes that leave
BLANK (R116, R128, R134). That the event acts only when due, and the order of the lanes' notices, are the model's choice (log
entry 8). -/
def Obligations.BlankingEndRestrikesTheBlankLanes : Prop :=
  (∀ (s : State) (sweep : SweepNo), s.siteRecord.zones ≤ s.zones.length →
    (∀ z, z < s.siteRecord.zones → (s.zone z).state = .blank → 1 ≤ (s.zone z).blankRemaining) →
    let t := blankingStep sweep s
    let ends (z : Nat) : Prop := z < s.siteRecord.zones ∧ (s.zone z).state = .blank ∧ (s.zone z).blankRemaining = 1
    let restrikes (l : Nat) : Prop :=
      (s.lane l).state = .blank ∧ ∃ z, ends z ∧ l < s.siteRecord.lanes ∧ s.activeSet.zoneOf l = some z
    (∀ z, ends z → t.zone z = { state := .normal, blankRemaining := 0, arcHistory := (s.zone z).arcHistory }) ∧
    (∀ z, z < s.siteRecord.zones → (s.zone z).state = .blank → 2 ≤ (s.zone z).blankRemaining →
      t.zone z = { s.zone z with blankRemaining := (s.zone z).blankRemaining - 1 }) ∧
    (∀ z, (s.siteRecord.zones ≤ z ∨ (s.zone z).state ≠ .blank) → t.zone z = s.zone z) ∧
    (∀ l, (restrikes l → t.lane l = { s.lane l with state := .ramp, restriking := true }) ∧
      (¬ restrikes l → t.lane l = s.lane l)) ∧
    (∀ ended : List Nat, ended.Pairwise (· < ·) → (∀ z, z ∈ ended ↔ ends z) →
      t.NoticesOf (s.queuing (ended.map fun z =>
        { subject := .zone z, state := .zone .normal, value := .number (s.zone z).arcHistory.length, sweep
          changes := 1 }))) ∧
    t = { s with
      zones := t.zones, lanes := t.lanes, notices := t.notices, noticesDropped := t.noticesDropped
      droppedCount := t.droppedCount }) ∧
  ∀ (s : State) (zone : BitVec 3), s.inReset = false → s.zones.length = zoneCount → s.lanes.length = laneCount →
    s.siteRecord.lanes ≤ laneCount → zone.toNat < s.siteRecord.zones →
    let v := s.zone zone.toNat
    (v.state = .blank → v.blankRemaining = 1 →
      ∃ t, exec (.blankingEnd zone) s = .next t ∧
        t.zone zone.toNat = { state := .normal, blankRemaining := 0, arcHistory := v.arcHistory } ∧
        (∀ z, z ≠ zone.toNat → t.zone z = s.zone z) ∧
        (∀ l, l < laneCount → t.lane l =
          if l < s.siteRecord.lanes ∧ s.activeSet.zoneOf l = some zone.toNat ∧ (s.lane l).state = .blank then
            { s.lane l with state := .ramp, restriking := true, stateEntrySweep := s.lastEvaluation }
          else s.lane l) ∧
        (∀ left : List Nat, left.Pairwise (· < ·) →
          (∀ l, l ∈ left ↔ l < laneCount ∧
            l < s.siteRecord.lanes ∧ s.activeSet.zoneOf l = some zone.toNat ∧ (s.lane l).state = .blank) →
          t.NoticesOf (s.queuing
            ({ subject := .zone zone.toNat, state := .zone .normal, value := .number v.arcHistory.length
               sweep := s.lastEvaluation, changes := 1 } ::
            left.map fun l =>
              { subject := .lane l, state := .lane .ramp, value := .number (s.lane l).applied
                sweep := s.lastEvaluation, changes := 1 }))) ∧
        t = { s with
          zones := t.zones, lanes := t.lanes, notices := t.notices, noticesDropped := t.noticesDropped
          droppedCount := t.droppedCount }) ∧
    ((v.state ≠ .blank ∨ 2 ≤ v.blankRemaining) → exec (.blankingEnd zone) s = .next s)

/-- At step 4 of the zone stage, after the arcs' judgement, ARC_LINE is resolved when it is a member, the sweep is valid
and its number is at or after the resolving sweep: a low ARC_N sets the mask flag and queues ARC_LINE_STUCK raised, a sweep
with no zone that received an arc from a head flag queues SPURIOUS_ARC after it with the count of flagged records, the
removal of ARC_LINE is decided and ARC_LINE stays a member for now; otherwise nothing happens (R130 to R132).
When an evaluation completes, a decided removal takes ARC_LINE out of the force-zero set, but for a line that is low again
unmasked, which stays with the next launch's sweep as its resolving sweep; with no removal decided nothing but the evaluation
ends (R133). The commands held for it are then taken, in their order: with none held nothing more happens, one is taken as on
its arrival, an UNKNOWN at the head is answered before the rest is taken, and behind a waiting activation they stay held (R157,
R168). With no evaluation in progress nothing happens. That this row ends the evaluation in progress is log entry 16. -/
def Obligations.CompletionRemovesTheArcLine : Prop :=
  (∀ (s : State) (c : Classified) (headZones rowZones : List Nat),
    let t := resolveArcLine c headZones s
    let resolves : Prop :=
      s.forceArcLine = true ∧ c.valid = true ∧ (c.sweep - s.resolvingSweep).toNat < 2147483648
    let count : Nat := ((List.range 16).filter fun k => (c.record k).any fun r => r.arcFlag).length
    let arcs : List Nat := (List.range s.siteRecord.zones).filter fun z =>
      decide (z ∈ s.headArcZones c ∨ z ∈ rowZones)
    arcSteps c rowZones s =
      resolveArcLine c (s.headArcZones c)
        (forEach (List.range s.siteRecord.zones) (fun z s => judgeZone c.sweep arcs z s) s) ∧
    (¬ resolves → t = s) ∧
    (resolves →
      t = { s with
        arcMasked := s.arcMasked || s.arcLow
        evaluation := s.evaluation.map fun (e : EvalProgress) => { e with removalDecided := true }
        notices := t.notices, noticesDropped := t.noticesDropped, droppedCount := t.droppedCount } ∧
      t.NoticesOf (s.queuing
        ((if s.arcLow then
          [{ subject := .arcLineStuck, state := .raised, value := .none, sweep := c.sweep, changes := 1 }] else []) ++
        (if headZones = [] then
          [{ subject := .spuriousArc, state := .spurious, value := .number count, sweep := c.sweep, changes := 1 }]
          else []))))) ∧
  ∀ s : State, s.inReset = false →
    (s.evaluation = none → exec .evaluationComplete s = .next s) ∧
    ∀ e ended, s.evaluation = some e →
      ((e.removalDecided = false ∧ ended = { s with evaluation := none }) ∨
        (e.removalDecided = true ∧ s.arcLow = true ∧ s.arcMasked = false ∧
          ended = { s with evaluation := none, resolvingSweep := s.sweepNumber + 1 }) ∨
        (e.removalDecided = true ∧ (s.arcLow = false ∨ s.arcMasked = true) ∧
          ended = { s with evaluation := none, forceArcLine := false })) →
      ((s.commands = [] ∨ s.waiting.isSome = true) → exec .evaluationComplete s = .next ended) ∧
      exec .evaluationComplete s = .next ended.drainCommands ∧
      (∀ d, s.waiting = none → s.commands = [d] → s.replies.length < 4 →
        exec .evaluationComplete s = .next (State.submit { ended with commands := [] } d.tag d.payload)) ∧
      ∀ d rest, s.waiting = none → s.commands = d :: rest →
        (d.payload.getD 0 0 = 0 ∨ 8 < (d.payload.getD 0 0).toNat) →
        exec .evaluationComplete s =
          .next (State.drainCommands
            (State.answer { ended with commands := rest } d.tag (d.payload.getD 0 0) .unknown .empty))

/-! ### Lanes and the site budget -/

/-- Steps 1 and 2 of lane handling take exactly the lanes below L: each takes its composed ceiling and then settles in lane
order, and a lane at or above L is left as it is (R82, R93). The state a lane settles into is the first of the list whose
condition holds: zone lockout, request clear, probe
lockout, mute causes, zone blanking, probe, then RAMP or ON (R100). A lane's mute causes are the defined effective MUTE rows
that cover it, INHIBIT, LINK_LOSS and BLIND_MUTE, each exactly while it holds, and the lane settles by them, by its zone's
state and by its probe policy, where FOLLOW_STRAP probes always with a low strap (R67, R102, R105, R109, R111). A lane in PROBE
is counted down while probe remaining is 2 or more, and at 1 its probe is judged: RAMP, a restart, or LOCKOUT with cause PROBE
(R105, R106). Each line gives the whole lane record: an abandoned probe has probe remaining 0, is owed and keeps retries used,
and every exit from MUTED clears mute-involved-latch (R107, R111 to R114). The settled state that later steps read is silent,
PROBE with a mark for an entry at this step, or running with
the restriking mark (R82, R91). Step 2 judges a lane that a blank entry has moved from the state
it held before the move, and any other from the state it stands in, and a settled lane counts as muted by an event only from
then on (R82). That a clear on request writes retries used 0 at this step is
log entry 32, and that step 2 settles the lanes in ascending lane number is log entry 41. What the policy and the probe's
criterion say of a lane without a plan entry is left free here. -/
def Obligations.LaneSettlesByPrecedence : Prop :=
  (∀ (s : State) (l : Nat),
    (∀ r, .row r ∈ s.muteCauses l ↔ ∃ outlast, s.MutedByRow l r outlast) ∧
    (.inhibit ∈ s.muteCauses l ↔ s.forceInhibit = true) ∧ (.linkLoss ∈ s.muteCauses l ↔ s.link ≠ .locked) ∧
    (.blindMute ∈ s.muteCauses l ↔ s.blindMute = true) ∧
    ((s.situation l).muted = true ↔ s.muteCauses l ≠ []) ∧
    ((s.situation l).latchedMute = true ↔ ∃ r, s.MutedByRow l r .latch) ∧
    (s.situation l).rules.length = s.activeSet.parameters.probeLength ∧
    (s.situation l).rules.retries = s.activeSet.parameters.probeRetries ∧
    ((s.situation l).zoneLockout = true ↔
      ∃ z, s.activeSet.zoneOf l = some z ∧ (s.zone z).state = .lockout) ∧
    ((s.situation l).zoneBlank = true ↔ ∃ z, s.activeSet.zoneOf l = some z ∧ (s.zone z).state = .blank) ∧
    (∀ p, s.activeSet.plan l = some p →
      ((s.situation l).policyProbes = true ↔
        p.probePolicy = .always ∨ (p.probePolicy = .followStrap ∧ s.probePolHigh = false) ∨
          (s.lane l).muteInvolvedLatch = true) ∧
      ((s.situation l).passed = true ↔ ∀ i, p.ratioPoint = some i →
        (s.pointOrNone i).state = .valid ∧
          ∃ n, (s.pointOrNone i).value = some n ∧ n ≤ s.activeSet.parameters.probeRatioLimit))) ∧
  (∀ (s : State) (settled : List Settled) (l : Nat), l < s.lanes.length →
    let judgedFrom : LaneState := match s.evaluation with
      | some e => (e.movedFrom.getD l none).getD (s.lane l).state
      | none => (s.lane l).state
    let x := { s.lane l with state := judgedFrom }.settle (s.situation l)
    let t := settleLane undisturbed (s, settled) l
    t.1.lane l = x.1 ∧ t.2 = settled ++ [x.2] ∧ (∀ k, k ≠ l → t.1.lane k = s.lane k) ∧
    t.1 = { s with
      lanes := t.1.lanes
      evaluation := s.evaluation.map fun (e : EvalProgress) =>
        { e with mutedSince := e.mutedSince.set l false, movedFrom := e.movedFrom.set l none } }) ∧
  (∀ s : State,
    let lanes := List.range s.siteRecord.lanes
    settleStage s =
      lanes.foldl (settleLane undisturbed) (lanes.foldl (fun (u : State) (l : Nat) => composeLane l u) s, []) ∧
    (settleStage s).2.length = s.siteRecord.lanes ∧
    (∀ l, s.siteRecord.lanes ≤ l → (settleStage s).1.lane l = s.lane l) ∧
    ∀ l, l < s.siteRecord.lanes → l < s.lanes.length →
      let judgedFrom : LaneState := match s.evaluation with
        | some e => (e.movedFrom.getD l none).getD (s.lane l).state
        | none => (s.lane l).state
      let x := { s.lane l with ceiling := s.composedCeiling l, state := judgedFrom }.settle (s.situation l)
      (settleStage s).1.lane l = x.1 ∧ (settleStage s).2.getD l .silent = x.2) ∧
  ∀ (v : Lane) (x : Situation),
    let w := (v.settle x).1
    let y := (v.settle x).2
    let latchAfterExit : Bool := if v.state = .muted then false else v.muteInvolvedLatch
    let remainingKept : Nat := if v.state = .probe then 0 else v.probeRemaining
    (x.zoneLockout = true → y = .silent ∧ w = { v with
      state := .lockout, lockoutCause := .arc, probeRemaining := 0, probeOwed := false
      muteInvolvedLatch := latchAfterExit }) ∧
    (x.zoneLockout = false → v.onRequest = false → y = .silent ∧ w = { v with
      state := .off, target := 0, applied := 0, probeRemaining := 0, retriesUsed := 0, probeOwed := false
      muteInvolvedLatch := false }) ∧
    (x.zoneLockout = false → v.onRequest = true →
      (v.state = .lockout → v.lockoutCause = .probe → w = v ∧ y = .silent) ∧
      ((v.state ≠ .lockout ∨ v.lockoutCause ≠ .probe) →
        (x.muted = true → y = .silent ∧ w = { v with
          state := .muted, probeOwed := v.probeOwed || v.state == .probe, probeRemaining := remainingKept
          muteInvolvedLatch := v.muteInvolvedLatch || x.latchedMute }) ∧
        (x.muted = false →
          (x.zoneBlank = true → y = .silent ∧ w = { v with
            state := .blank, probeRemaining := remainingKept, muteInvolvedLatch := latchAfterExit
            probeOwed := v.probeOwed || v.state == .probe || (v.state == .muted && x.policyProbes) }) ∧
          (x.zoneBlank = false →
            let enters : Prop :=
              (v.state = .muted ∧ (x.policyProbes = true ∨ v.probeOwed = true)) ∨
                (v.restriking = true ∧ v.probeOwed = true)
            (enters → y = .probe true ∧ w = { v with
              state := .probe, probeRemaining := x.rules.length, probeOwed := false
              muteInvolvedLatch := latchAfterExit }) ∧
            (¬ enters → v.state = .probe →
              (2 ≤ v.probeRemaining → w = { v with probeRemaining := v.probeRemaining - 1 } ∧ y = .probe false) ∧
              (v.probeRemaining = 1 →
                (x.passed = true → w = { v with state := .ramp, probeRemaining := 0, retriesUsed := 0 } ∧
                  y = .running false) ∧
                (x.passed = false → v.retriesUsed + 1 ≤ x.rules.retries →
                  w = { v with probeRemaining := x.rules.length, retriesUsed := v.retriesUsed + 1 } ∧
                  y = .probe false) ∧
                (x.passed = false → x.rules.retries < v.retriesUsed + 1 →
                  w = { v with
                    state := .lockout, lockoutCause := .probe, probeRemaining := 0, retriesUsed := v.retriesUsed + 1
                    probeOwed := false } ∧ y = .silent))) ∧
            (¬ enters → v.state ≠ .probe → y = .running v.restriking ∧ w = { v with
              state := if v.state = .on then .on else .ramp, muteInvolvedLatch := latchAfterExit })))))

/-- The judgement of a lane's probe at its last evaluation: a pass enters RAMP with no retries used, a failure within
the retries restarts the probe, and a failure beyond them locks the lane out with cause PROBE, zero scales and its notice
(R116); the other lanes are as they were; a lane that is not at its last evaluation of a probe is left as it is (R105, R106). That
the event acts only when due is the model's choice (log entry 8). -/
def Obligations.ProbeIsJudgedAtItsLastEvaluation : Prop :=
  ∀ (s : State) (lane : BitVec 3), s.inReset = false → s.lanes.length = laneCount →
    lane.toNat < s.siteRecord.lanes →
    let l := lane.toNat
    let v := s.lane l
    let q := s.activeSet.parameters
    let passed : Prop := ∀ i, (s.activeSet.plan l).bind (·.ratioPoint) = some i →
      (s.pointOrNone i).state = .valid ∧ ∃ n, (s.pointOrNone i).value = some n ∧ n ≤ q.probeRatioLimit
    (v.state = .probe → v.probeRemaining = 1 →
      ∃ t w, exec (.probeJudgement lane) s = .next t ∧ s.OneLane t l w ∧
        t = { s with
          lanes := t.lanes, multipliers := t.multipliers, notices := t.notices, noticesDropped := t.noticesDropped
          droppedCount := t.droppedCount } ∧
        (passed → w = { v with
          state := .ramp, probeRemaining := 0, retriesUsed := 0, stateEntrySweep := s.lastEvaluation
          restriking := false }) ∧
        ((passed ∨ v.retriesUsed + 1 ≤ q.probeRetries) → t.NoticesOf s) ∧
        (¬ passed → q.probeRetries < v.retriesUsed + 1 → t.NoticesOf (s.queuing
          [{ subject := .lane l, state := .lane .lockout, value := .cause .probe, sweep := s.lastEvaluation
             changes := 1 }])) ∧
        (¬ passed → v.retriesUsed + 1 ≤ q.probeRetries →
          w = { v with probeRemaining := q.probeLength, retriesUsed := v.retriesUsed + 1 }) ∧
        (¬ passed → q.probeRetries < v.retriesUsed + 1 →
          w = { v with
            state := .lockout, lockoutCause := .probe, probeRemaining := 0, retriesUsed := v.retriesUsed + 1
            probeOwed := false, target := 0, applied := 0, stateEntrySweep := s.lastEvaluation
            restriking := false })) ∧
    ((v.state ≠ .probe ∨ 2 ≤ v.probeRemaining) → exec (.probeJudgement lane) s = .next s)

/-- Step 7 gives a settled lane its scales: silent lanes 0, a probing lane at most its probe scale, a
restriking lane at most its restrike scale, a running lane at most one ramp step above its last; the applied scale is at
most the target, the multiplier is handed over, and a running lane is ON exactly when the two agree (R87 to R92, R108). A lane
whose state then differs from the one it began the evaluation in takes this sweep as its state entry sweep, and a change that
enters or leaves MUTED, BLANK or LOCKOUT queues one lane notice; a lane that ends in the state it began in queues none and, by
log entry 40, keeps its state entry sweep (R98, R116). A lane that an INHIBIT or LINK_LOSS event has muted since step 2 keeps
the event's state, scales, multiplier and entry sweep, queues nothing more, and takes its demand, grant and budget ceiling alone
(R82, R147). -/
def Obligations.LaneTakesItsScalesAtCompletion : Prop :=
  ∀ (s : State) (sweep : SweepNo) (settled : List Settled) (demands grants : List Nat) (l : Nat) (p : LanePlan),
    l < s.lanes.length → l < s.multipliers.length → s.activeSet.plan l = some p →
    let v := s.lane l
    let q := s.activeSet.parameters
    let x := settled.getD l .silent
    let demand := demands.getD l 0
    let grant := grants.getD l 0
    let budgetCeiling : Nat := if grant = demand then v.ceiling else 1000 * grant / p.ratedWatts
    let start : LaneState := match s.evaluation with
      | some e => e.startStates.getD l .off
      | none => v.state
    let noticed (state : LaneState) : Prop := state = .muted ∨ state = .blank ∨ state = .lockout
    let mutedSince : Prop := ∃ e, s.evaluation = some e ∧ e.mutedSince.getD l false = true
    let t := completeLane sweep settled demands grants l s
    let w := t.lane l
    (mutedSince → t = { s with lanes := s.lanes.set l { v with demand, grant, budgetCeiling } }) ∧
    (¬ mutedSince →
      w = { v with
        demand, grant, budgetCeiling, target := w.target, applied := w.applied, state := w.state, restriking := false
        stateEntrySweep := if w.state = start then v.stateEntrySweep else sweep } ∧
      w.target = (if x = .silent then 0 else min 65536 (p.pcal * budgetCeiling / 1000)) ∧
      w.applied = (match x with
        | .silent => 0
        | .probe true => 0
        | .probe false => min (p.pcal * q.probeLevel / 1000) w.target
        | .running true => min (p.pcal * q.restrikeLevel / 1000) w.target
        | .running false => min w.target (v.applied + max 1 (p.pcal * p.rampRate / 1000))) ∧
      w.applied ≤ w.target ∧ t.multiplier l = multiplierOf w.applied ∧
      (∀ b, x = .running b → w.state = if w.applied = w.target then .on else .ramp) ∧
      ((∀ b, x ≠ .running b) → w.state = v.state) ∧
      (w.state ≠ start → noticed start ∨ noticed w.state →
        t.NoticesOf (s.queuing
          [{ subject := .lane l, state := .lane w.state
             value := if w.state = .lockout then .cause w.lockoutCause else .number w.applied
             sweep, changes := 1 }])) ∧
      ((w.state = start ∨ ¬ (noticed start ∨ noticed w.state)) → t.NoticesOf s) ∧
      (∀ k, k ≠ l → t.lane k = s.lane k ∧ t.multiplier k = s.multiplier k) ∧
      t = { s with
        lanes := t.lanes, multipliers := t.multipliers, notices := t.notices, noticesDropped := t.noticesDropped
        droppedCount := t.droppedCount })

/-- Whatever the demands, the grants and what stays unassigned sum to exactly the site budget, no grant exceeds its
demand, and a budget that is not short grants every demand. When it is short, each lane is granted from what the lanes served
before it have left: a strict lane its demand or all of that, a weighted lane its demand or floor(r × w / Wrem), with Wrem the
weights of the weighted lanes not yet served; strict lanes come first, by rank and then lane number, and weighted lanes by
demand per unit of weight in cross products and then lane number (R143 to R146). In lane handling the site budget is
floor(B_max × b / 1000), where b is 1000 with no budget point named, the budget curve at a VALID budget point's value
clamped to 1000, and the value held when that point is NOISY or not VALID (R141, R142). A lane that settles in PROBE, RAMP or ON
demands floor(W × C / 1000) and any other 0 (R85). Steps 3 to 7 complete exactly the lanes below L, in lane order and each with
these demands and the grants that answer them; a lane at or above L is left as it is (R82, R93, R143, R147). The draw counter,
which these steps move on, is the model's own (log entry 23). -/
def Obligations.GrantsNeverExceedTheBudget : Prop :=
  (∀ (s : State) (sweep : SweepNo) (settled : List Settled),
    let q := s.activeSet.parameters
    let b := s.budgetValue
    let lanes := List.range s.siteRecord.lanes
    let demands := lanes.map fun l => s.laneDemand l (settled.getD l .silent)
    let p := apportion s.activeSet (s.siteRecord.siteMaximum * b / 1000) b demands
    let t := completeStage sweep settled s
    t.budget = p.1 ∧
    t.budget.value = b ∧ t.budget.siteBudget = s.siteRecord.siteMaximum * b / 1000 ∧ t.budget.demandSum = demands.sum ∧
    (∀ l x e, s.activeSet.plan l = some e →
      (x ≠ .silent → s.laneDemand l x = e.ratedWatts * (s.lane l).ceiling / 1000) ∧
      (x = .silent → s.laneDemand l x = 0)) ∧
    t = lanes.foldl (fun (u : State) (l : Nat) => completeLane sweep settled demands p.2 l u)
      { s with budget := p.1, draws := s.draws + 1 } ∧
    (∀ l, l < s.siteRecord.lanes → l < s.lanes.length →
      (t.lane l).demand = s.laneDemand l (settled.getD l .silent) ∧ (t.lane l).grant = p.2.getD l 0) ∧
    (∀ l, s.siteRecord.lanes ≤ l → t.lane l = s.lane l ∧ t.multiplier l = s.multiplier l) ∧
    (q.budgetPoint = none → b = 1000) ∧
    (∀ i v curve, q.budgetPoint = some i → (s.pointOrNone i).state = .valid → (s.pointOrNone i).value = some v →
      (s.pointOrNone i).noisy = false → s.activeSet.curve q.budgetCurve = some curve →
      b = min 1000 (curveValue curve v)) ∧
    (∀ i, q.budgetPoint = some i → ((s.pointOrNone i).state ≠ .valid ∨ (s.pointOrNone i).noisy = true) →
      b = s.budget.value)) ∧
  ∀ (t : TableSet) (siteBudget value : Nat) (demands : List Nat),
    let p := apportion t siteBudget value demands
    p.2.length = demands.length ∧ p.2.sum + p.1.unassigned = siteBudget ∧
    (∀ l, p.2.getD l 0 ≤ demands.getD l 0) ∧
    (p.1.short = true ↔ siteBudget < demands.sum) ∧ (demands.sum ≤ siteBudget → p.2 = demands) ∧
    p.1.demandSum = demands.sum ∧
    (siteBudget < demands.sum → (∀ l e, t.plan l = some e → e.InRange) → ∀ l, l < demands.length →
      let lanes := List.range demands.length
      let before := lanes.filter fun k => servedBefore t demands k l
      let left : Nat := siteBudget - (before.map fun k => p.2.getD k 0).sum
      let weightLeft : Nat := ((lanes.filter fun k => !servedBefore t demands k l).map (weightOf t)).sum
      (t.plan l = none → p.2.getD l 0 = 0) ∧
      (∀ e rank, t.plan l = some e → e.budgetClass = .strict rank → p.2.getD l 0 = min (demands.getD l 0) left) ∧
      (∀ e weight, t.plan l = some e → e.budgetClass = .weighted weight →
        p.2.getD l 0 = min (demands.getD l 0) (left * weight / weightLeft)))

/-- Step 1 gives a lane the ceiling that is at most its setpoint, its mode ceiling (1250 in FULL, the plan's reduced level in
REDUCED), the ceiling in force of every effective CEILING row that covers it, and the blind ceiling while SENSE_BLIND is raised
or the HEAD_LOST of a position that serves the lane through a point; it is 1250 or one of these, and nothing else changes (R34,
R83, R84). For a lane without a plan entry the mode ceiling in REDUCED is a free value within 100..1000 (log entry 1). -/
def Obligations.CeilingIsTheLeastComponent : Prop :=
  ∀ (s : State) (l : Nat),
    let ceiling := s.composedCeiling l
    let v := s.lane l
    let blind : Prop := s.senseBlind = true ∨ ∃ h, h < headCount ∧ s.isHeadLost h = true ∧ s.Serves h l
    composeLane l s = { s with lanes := s.lanes.set l { v with ceiling := ceiling } } ∧
    ceiling ≤ 1250 ∧ ceiling ≤ v.setpoint ∧
    (∀ p, v.mode = .reduced → s.activeSet.plan l = some p → ceiling ≤ p.reducedLevel) ∧
    (∀ r c, r < rowCount → s.CapsLane r l c → ceiling ≤ c) ∧
    (blind → ceiling ≤ s.activeSet.parameters.blindCeiling) ∧
    (ceiling = 1250 ∨ ceiling = v.setpoint ∨
      (v.mode = .reduced ∧ ∃ p, s.activeSet.plan l = some p ∧ ceiling = p.reducedLevel) ∨
      (v.mode = .reduced ∧ s.activeSet.plan l = none ∧ 100 ≤ ceiling ∧ ceiling ≤ 1000) ∨
      (∃ r, r < rowCount ∧ s.CapsLane r l ceiling) ∨
      (blind ∧ ceiling = s.activeSet.parameters.blindCeiling))

/-! ### Activation and snapshots -/

/-- The second stage: with nothing waiting nothing changes. What blocks is the first that holds of a zone below Z in BLANK, a
latched row, and a lane in LOCKOUT. A blocked application raises the deferral count, and at 1024
completes ACTIVATE with STATE and drops the validated set; otherwise the validated set is active, the phase is SERVICE
and nothing waits (R158, R159, R162). An application keeps the records of unchanged points and makes changed ones
NO_VALUE, carries a row whose source, scope and action are the same and restarts, creates or drops any other, with one
release notice where an effective ALERT row ends, empties every arc history when a resolved zone differs and trims it to
a lowered arc limit, and re-marks the records of changed head entries as stale for this evaluation (R30, R49, R70, R75,
R136). -/
def Obligations.WaitingActivationIsAppliedDeferredOrAbandoned : Prop :=
  ∀ (s : State) (sweep : SweepNo),
    (let blank : Prop := ∃ z, z < s.siteRecord.zones ∧ (s.zone z).state = .blank
     let latched : Prop := ∃ r d q, r < rowCount ∧ s.activeSet.row r = some d ∧ s.rowRuntime r = some q ∧ q.latched = true
     let locked : Prop := ∃ l, l < laneCount ∧ (s.lane l).state = .lockout
     (s.blocking = some .blank ↔ blank) ∧ (s.blocking = some .latched ↔ ¬ blank ∧ latched) ∧
     (s.blocking = some .lockout ↔ ¬ blank ∧ ¬ latched ∧ locked) ∧
     (s.blocking = none ↔ ¬ blank ∧ ¬ latched ∧ ¬ locked)) ∧
    (s.waiting = none → (activationStage sweep s).1 = s) ∧
    (∀ w b, s.waiting = some w → s.blocking = some b → w.deferrals + 1 < 1024 →
      (activationStage sweep s).1 = { s with waiting := some { w with deferrals := w.deferrals + 1 } }) ∧
    (∀ w b c rest, s.waiting = some w → s.blocking = some b → w.deferrals + 1 = 1024 → s.commands = c :: rest →
      (activationStage sweep s).1 =
        { s with
          waiting := none
          commands := rest
          replies := s.replies ++
            [{ tag := c.tag, kind := c.payload.getD 0 0, result := .state, data := .activationAbandoned b }] }) ∧
    (∀ w c rest, s.waiting = some w → s.blocking = none → s.commands = c :: rest →
      (activationStage sweep s).1.activeSet = w.tables ∧ (activationStage sweep s).1.phase = .service ∧
      (activationStage sweep s).1.waiting = none ∧ (activationStage sweep s).1.commands = rest ∧
      (activationStage sweep s).1.replies = s.replies ++
        [{ tag := c.tag, kind := c.payload.getD 0 0, result := .done, data := .activated sweep w.deferrals }] ∧
      (activationStage sweep s).1.pendingSet = s.pendingSet ∧ (activationStage sweep s).1.lanes = s.lanes ∧
      (activationStage sweep s).1.siteRecord = s.siteRecord) ∧
    (∀ w, s.waiting = some w → s.blocking = none →
      let t := (activationStage sweep s).1
      let old := s.activeSet
      let new := w.tables
      (∀ i, i < s.pointRecords.length → t.pointRecord i =
        if old.point i = new.point i then s.pointRecord i
        else if (new.point i).isSome then
          some { state := .noValue, value := none, overRange := false, noisy := false }
        else none) ∧
      (∀ r, r < s.rowRuntimes.length →
        (new.row r = none → t.rowRuntime r = none) ∧
        (∀ d d' q, old.row r = some d → new.row r = some d' → s.rowRuntime r = some q →
          d.source = d'.source → d.scope = d'.scope → d.action = d'.action →
          t.rowRuntime r = some { q with
            ceilingInForce := match d'.ceiling with
              | some (.fixed v) => if q.phase = .asserted ∨ q.phase = .clearing ∨ q.latched = true then some v else none
              | _ => q.ceilingInForce }) ∧
        (∀ d', new.row r = some d' →
          (∀ d, old.row r = some d → ¬ (d.source = d'.source ∧ d.scope = d'.scope ∧ d.action = d'.action)) →
          t.rowRuntime r = some
            { phase := .idle, progress := 0, latched := false, seen := false, firstSweep := none, assertions := 0
              extreme := none, ceilingInForce := none })) ∧
      (∀ owed : List Nat, owed.Pairwise (· < ·) → (∀ r, r ∈ owed ↔ s.OwesRelease new r) →
        t.NoticesOf (s.queuing (owed.map fun r =>
          { subject := .row r, state := .row .idle false, value := .none, sweep, changes := 1 }))) ∧
      (∀ z, z < s.zones.length →
        let v := s.zone z
        let limit := new.parameters.arcLimit
        ((∃ l, l < s.siteRecord.lanes ∧ old.zoneOf l ≠ new.zoneOf l) → t.zone z = { v with arcHistory := [] }) ∧
        ((∀ l, l < s.siteRecord.lanes → old.zoneOf l = new.zoneOf l) →
          t.zone z =
            if limit < old.parameters.arcLimit ∧ limit ≤ v.arcHistory.length then
              { v with arcHistory := v.arcHistory.drop (v.arcHistory.length - (limit - 1)) }
            else v)) ∧
      (∀ (c : Classified) k,
        (c.remark (activationStage sweep s).2).record k = if old.head k = new.head k then c.record k else none))

/-- The abandonment as one event: a blocked activation at its last deferral completes with STATE naming what blocks
it, and the commands behind it are held while an evaluation is in progress, and are taken at once otherwise; one that is
not at its last deferral, or not blocked, is left as it is (R158, R168). That the event acts only when due, and takes the
commands behind it when no evaluation is in progress, is the model's choice (log entry 8). -/
def Obligations.ActivationIsAbandonedAtTheLimit : Prop :=
  ∀ s : State, s.inReset = false →
    (∀ w b c rest, s.waiting = some w → s.blocking = some b → w.deferrals = 1023 → s.commands = c :: rest →
      let t : State := { s with
        waiting := none
        commands := rest
        replies := s.replies ++
          [{ tag := c.tag, kind := c.payload.getD 0 0, result := .state, data := .activationAbandoned b }] }
      ((s.evaluation.isSome = true ∨ rest = []) → exec .activationAbandon s = .next t) ∧
      (s.evaluation = none → exec .activationAbandon s = .next t.drainCommands) ∧
      (∀ d, s.evaluation = none → rest = [d] → 8 < (d.payload.getD 0 0).toNat →
        exec .activationAbandon s =
          .next (State.answer { t with commands := [] } d.tag (d.payload.getD 0 0) .unknown .empty))) ∧
    ((s.waiting = none ∨ s.blocking = none ∨ ∃ w, s.waiting = some w ∧ w.deferrals < 1023) →
      exec .activationAbandon s = .next s)

/-- At the seventh stage a snapshot interval of 0 sets the snapshot count to 0; otherwise the count rises by 1, and when it is
then at least the interval a snapshot is built into the slot, replacing what the slot holds, and the count is set to 0. The
snapshot holds the sweep number and, for each of the eight lanes, the state, the applied scale, and the forward and ratio values
that its plan's ratio point gives, with their point states; nothing else changes. As one event a snapshot that is due is built
so, and one that is not due changes nothing (R176). That the event acts only when due is the model's choice (log entry 8). -/
def Obligations.DueSnapshotIsBuilt : Prop :=
  ∀ s : State,
    let interval := s.activeSet.parameters.snapshotInterval
    (∀ sweep,
      (interval = 0 → snapshotStage sweep s = { s with snapshotCount := 0 }) ∧
      (0 < interval → interval ≤ s.snapshotCount + 1 →
        ∃ p, snapshotStage sweep s = { s with snapshot := some p, snapshotCount := 0 } ∧ s.SnapshotIs sweep p) ∧
      (s.snapshotCount + 1 < interval → snapshotStage sweep s = { s with snapshotCount := s.snapshotCount + 1 })) ∧
    (s.inReset = false →
      (0 < interval → interval ≤ s.snapshotCount + 1 →
        ∃ p, exec .snapshotBuild s = .next { s with snapshot := some p, snapshotCount := 0 } ∧
          s.SnapshotIs s.lastEvaluation p) ∧
      ((interval = 0 ∨ s.snapshotCount + 1 < interval) → exec .snapshotBuild s = .next s))

/-! ### Management commands -/

/-- Each LOAD writes its entry into the pending set and nothing else, or gets RANGE and writes nothing; the Protection
Parameters cannot be written undefined; DISCARD makes the pending set a copy of the active set, but for zone entries
resolved from the default, which become undefined (R152, R153, R154). A parser answers an entry exactly when the fields spell
it and the entry lies within the ranges and relations of its part: a point (R38), a head, whose quad input word must be 0..3 and
is held as 0 for SPREAD (R153), a curve (R79), a row (R53, R54), a zone (R120), a lane plan (R95) and the parameters (R153), where
all ones takes a default. The codes and widths of single fields are log entries 9 to 12 and 19. -/
def Obligations.LoadsWriteThePendingSet : Prop :=
  (∀ f : List Word,
    (∀ e, parsePoint f = some e ↔ e.InRange ∧ Spells f e.words) ∧
    (∀ e, parseHead f = some e ↔ e.InRange ∧ (f.getD 2 0).toNat ≤ 3 ∧
      ∀ i, i < e.words.length → (i = 2 → e.mode = .quad) → f.getD i 0 = e.words.getD i 0) ∧
    (∀ e, parseCurve f = some e ↔ Curve.InRange e ∧ Spells f (curveWords e)) ∧
    (∀ e, parseRow f = some e ↔ e.InRange ∧ Spells f e.words) ∧
    (∀ e, parseZone f = some e ↔ e.InRange ∧ Spells f e.words) ∧
    (∀ e, parseLanePlan f = some e ↔ e.InRange ∧ SpellsWithDefaults 6 [500, 5, 0] f e.words) ∧
    (∀ e, parseParameters f = some e ↔ e.InRange ∧
      SpellsWithDefaults 0 [500, 20, 5, 0xFFFF, 0, 10000, 4, 20, 300, 50, 10, 1000, 1, 0] f e.words)) ∧
  LoadWrites .loadPoint 64 0 parsePoint (fun t i e => { t with points := t.points.set i e }) ∧
  LoadWrites .loadHead 16 1 parseHead (fun t k e => { t with heads := t.heads.set k e }) ∧
  LoadWrites .loadCurve 4 2 parseCurve (fun t c e => { t with curves := t.curves.set c e }) ∧
  LoadWrites .loadCondition 48 3 parseRow (fun t r e => { t with rows := t.rows.set r e }) ∧
  LoadWrites .loadZonePlan 8 4 parseZone (fun t l e => { t with zonePlan := t.zonePlan.set l e }) ∧
  LoadWrites .loadLanePlan 8 5 parseLanePlan (fun t l e => { t with lanePlan := t.lanePlan.set l e }) ∧
  (∀ (s : State) (tag : Tag), s.Ready →
    exec (.discard tag) s =
      .next ({ s with
        pendingSet := { s.activeSet with
          zonePlan := s.activeSet.zonePlan.map fun (z : Option ZoneEntry) =>
            if z.any (fun (e : ZoneEntry) => e.fromDefault) then none else z } }.answer tag 2 .done .empty)) ∧
  ∀ (s : State) (tag : Tag) (index definedWord : Word) (fields : List Word), s.Ready → fields.length ≤ 60 →
    (index = 0 → definedWord = 1 → ∀ e, parseParameters fields = some e →
      exec (.loadParameters tag index definedWord fields) s =
        .next ({ s with pendingSet := { s.pendingSet with parameters := e } }.answer tag 1 .done (.loaded 6 index))) ∧
    ((index ≠ 0 ∨ definedWord ≠ 1 ∨ parseParameters fields = none) →
      exec (.loadParameters tag index definedWord fields) s = .next (s.answer tag 1 .range .empty))

/-- ACTIVATE is refused with STATE while a row is latched or a lane is in LOCKOUT, fails with the first failing check,
or is valid: it stays at the head of the queue with no reply, its validated set waiting with no deferral. The set checked is
the pending set with the default zone where a lane below L has no zone entry; it passes when none of the seventeen checks
fails at any item, and otherwise the first failure is the least code and, within it, the least item (R120, R155 to
R157). -/
def Obligations.ActivateIsRefusedFailsOrWaits : Prop :=
  (∀ (r : SiteRecord) (t : TableSet),
    (validate r t = none ↔ ∀ code item, ¬ FailsCheck r t code item) ∧
    (∀ code item, validate r t = some (code, item) ↔
      FailsCheck r t code item ∧ ∀ c i, FailsCheck r t c i → code < c ∨ (code = c ∧ item ≤ i)) ∧
    (∀ l, l < t.zonePlan.length → (resolveZones r t).zoneEntry l =
      match t.zoneEntry l with
      | some z => some z
      | none => if l < r.lanes then some { zone := l * r.zones / r.lanes, fromDefault := true } else none) ∧
    resolveZones r t = { t with zonePlan := (resolveZones r t).zonePlan }) ∧
  (∀ s : State,
    s.latchedRows.Pairwise (· < ·) ∧ s.lockedLanes.Pairwise (· < ·) ∧
    (∀ r, r ∈ s.latchedRows ↔ r < rowCount ∧
      ∃ d q, s.activeSet.row r = some d ∧ s.rowRuntime r = some q ∧ q.latched = true) ∧
    ∀ l, l ∈ s.lockedLanes ↔ l < laneCount ∧ (s.lane l).state = .lockout) ∧
  ∀ (s : State) (tag : Tag), s.Ready →
    ((s.latchedRows ≠ [] ∨ s.lockedLanes ≠ []) →
      exec (.activate tag) s =
        .next (s.answer tag 3 .state (.activationRefused s.latchedRows.length s.lockedLanes.length))) ∧
    (s.latchedRows = [] → s.lockedLanes = [] →
      (∀ code item, validate s.siteRecord (resolveZones s.siteRecord s.pendingSet) = some (code, item) →
        exec (.activate tag) s = .next (s.answer tag 3 .inconsistent (.inconsistent code item))) ∧
      (validate s.siteRecord (resolveZones s.siteRecord s.pendingSet) = none →
        exec (.activate tag) s =
          .next { s with
            commands := [{ tag, payload := 3 :: List.replicate 63 0 }]
            waiting := some { tables := resolveZones s.siteRecord s.pendingSet, deferrals := 0 } }))

/-- SITE: PHASE_LOCKED in SERVICE; RANGE in SETUP when a field is out of its range, Z is not 1, 2, 4 or 8, or Z is above
L; otherwise the record is replaced whole, the lanes below the new L are as they were, and those at or above it hold
zero scales (R93, R161). -/
def Obligations.SiteReplacesTheRecord : Prop :=
  ∀ (s : State) (tag : Tag) (lanes zones heads period failLimit ratioFloor maxHigh maxLow : Word),
    s.Ready → s.lanes.length = laneCount → s.multipliers.length = laneCount →
    let siteMaximum : Nat := maxHigh.toNat * 65536 + maxLow.toNat
    let legal : Prop :=
      1 ≤ lanes.toNat ∧ lanes.toNat ≤ 8 ∧ (zones = 1 ∨ zones = 2 ∨ zones = 4 ∨ zones = 8) ∧
      zones.toNat ≤ lanes.toNat ∧ 1 ≤ heads.toNat ∧ heads.toNat ≤ 16 ∧ 1 ≤ period.toNat ∧ period.toNat ≤ 100 ∧
      1 ≤ failLimit.toNat ∧ failLimit.toNat ≤ 15 ∧ 10 ≤ ratioFloor.toNat ∧ ratioFloor.toNat ≤ 200 ∧
      1 ≤ siteMaximum ∧ siteMaximum ≤ 1000000
    let record : SiteRecord :=
      { lanes := lanes.toNat, zones := zones.toNat, heads := heads.toNat, sweepPeriod := period.toNat
        failLimit := failLimit.toNat, ratioFloor := ratioFloor.toNat, siteMaximum }
    let command : Instr := .site tag lanes zones heads period failLimit ratioFloor maxHigh maxLow
    (s.phase = .service → exec command s = .next (s.answer tag 4 .phaseLocked .empty)) ∧
    (s.phase = .setup → ¬ legal → exec command s = .next (s.answer tag 4 .range .empty)) ∧
    (s.phase = .setup → legal →
      ∃ t : State, exec command s = .next (t.answer tag 4 .done (.siteInForce record)) ∧
        t = { s with siteRecord := record, lanes := t.lanes, multipliers := t.multipliers } ∧
        ∀ l, l < laneCount →
          (l < lanes.toNat → t.lane l = s.lane l ∧ t.multiplier l = s.multiplier l) ∧
          (lanes.toNat ≤ l →
            t.lane l = { s.lane l with
              ceiling := 0, demand := 0, grant := 0, budgetCeiling := 0, target := 0, applied := 0 } ∧
            t.multiplier l = 0))

/-- LANE on in SERVICE sets the on request: an OFF lane is turned on into PROBE or RAMP by its policy with zero
scales, an OFF lane that holds cause PROBE enters LOCKOUT, a lane in any other state keeps it; in SETUP it gets STATE,
and a lane at or above L gets RANGE (R97, R101, R102, R104). The policy FOLLOW_STRAP probes always with a low strap. That each
row carries one request is log entry 27; that a lane without a plan entry, which no checked plan has below L, follows the strap
is log entry 1. -/
def Obligations.LaneOnTurnsTheLaneOn : Prop :=
  ∀ (s : State) (tag : Tag) (lane : Word), s.Ready → s.lanes.length = laneCount → s.siteRecord.lanes ≤ laneCount →
    let l := lane.toNat
    let v := s.lane l
    let policy := ((s.activeSet.plan l).map (·.probePolicy)).getD .followStrap
    let probes : Prop :=
      policy = .always ∨ (policy = .followStrap ∧ s.probePolHigh = false) ∨ v.firstTurnOnDone = false
    (s.siteRecord.lanes ≤ l → exec (.laneOn tag lane) s = .next (s.answer tag 5 .range .empty)) ∧
    (l < s.siteRecord.lanes → s.phase = .setup → exec (.laneOn tag lane) s = .next (s.answer tag 5 .state .empty)) ∧
    (l < s.siteRecord.lanes → s.phase = .service →
      ∃ (t : State) (w : Lane),
        exec (.laneOn tag lane) s = .next (t.answer tag 5 .done (.laneInForce w.state true w.mode w.setpoint)) ∧
        t = { s with
          lanes := s.lanes.set l w, multipliers := t.multipliers, notices := t.notices
          noticesDropped := t.noticesDropped, droppedCount := t.droppedCount } ∧
        (v.state = .off → v.lockoutCause = .probe →
          w = { v with onRequest := true, state := .lockout, stateEntrySweep := s.lastEvaluation, restriking := false } ∧
          t.multipliers = s.multipliers.set l (multiplierOf v.applied) ∧
          t.NoticesOf (s.queuing
            [{ subject := .lane l, state := .lane .lockout, value := .cause .probe, sweep := s.lastEvaluation
               changes := 1 }])) ∧
        (v.state = .off → v.lockoutCause ≠ .probe →
          t.multipliers = s.multipliers.set l 0 ∧ t.NoticesOf s ∧
          (probes → w = { v with
            onRequest := true, state := .probe, target := 0, applied := 0, retriesUsed := 0, probeOwed := false
            muteInvolvedLatch := false, firstTurnOnDone := true
            probeRemaining := s.activeSet.parameters.probeLength
            stateEntrySweep := s.lastEvaluation, restriking := false }) ∧
          (¬ probes → w = { v with
            onRequest := true, state := .ramp, target := 0, applied := 0, retriesUsed := 0, probeOwed := false
            muteInvolvedLatch := false, firstTurnOnDone := true
            stateEntrySweep := s.lastEvaluation, restriking := false })) ∧
        (v.state ≠ .off →
          w = { v with onRequest := true } ∧ t.multipliers = s.multipliers ∧ t.NoticesOf s))

/-- LANE off clears the on request: a lane whose zone is not in LOCKOUT enters OFF at once with zero scales, its
lockout cause kept; a lane whose zone is in LOCKOUT keeps its state and, by log entry 32, its retries used; a lane at or
above L gets RANGE (R97, R103). That each row carries one request is log entry 27. -/
def Obligations.LaneOffSilencesTheLane : Prop :=
  ∀ (s : State) (tag : Tag) (lane : Word), s.Ready → s.lanes.length = laneCount → s.siteRecord.lanes ≤ laneCount →
    let l := lane.toNat
    let v := s.lane l
    let zoneLocked : Prop := ∃ z, s.activeSet.zoneOf l = some z ∧ (s.zone z).state = .lockout
    (s.siteRecord.lanes ≤ l → exec (.laneOff tag lane) s = .next (s.answer tag 5 .range .empty)) ∧
    (l < s.siteRecord.lanes → zoneLocked →
      exec (.laneOff tag lane) s =
        .next ({ s with lanes := s.lanes.set l { v with onRequest := false } }.answer tag 5 .done
          (.laneInForce v.state false v.mode v.setpoint))) ∧
    (l < s.siteRecord.lanes → ¬ zoneLocked →
      ∃ t : State,
        exec (.laneOff tag lane) s = .next (t.answer tag 5 .done (.laneInForce .off false v.mode v.setpoint)) ∧
        t = { s with
          lanes := s.lanes.set l { v with
            onRequest := false, state := .off, target := 0, applied := 0, probeRemaining := 0, retriesUsed := 0
            probeOwed := false, muteInvolvedLatch := false
            stateEntrySweep := if v.state = .off then v.stateEntrySweep else s.lastEvaluation
            restriking := if v.state = .off then v.restriking else false }
          multipliers := s.multipliers.set l 0, notices := t.notices, noticesDropped := t.noticesDropped
          droppedCount := t.droppedCount } ∧
        ((v.state = .muted ∨ v.state = .blank ∨ v.state = .lockout) →
          t.NoticesOf (s.queuing
            [{ subject := .lane l, state := .lane .off, value := .number 0, sweep := s.lastEvaluation, changes := 1 }])) ∧
        (v.state ≠ .muted → v.state ≠ .blank → v.state ≠ .lockout → t.NoticesOf s))

/-- A LANE command's mode and setpoint requests write those fields alone, a setpoint above 1250 as 1250; a mode code
above 2 and a lane at or above L get RANGE (R96, R97). That each row carries one request is log entry 27. -/
def Obligations.LaneModeAndSetpointAreWritten : Prop :=
  ∀ (s : State) (tag : Tag) (lane value : Word), s.Ready → s.lanes.length = laneCount → s.siteRecord.lanes ≤ laneCount →
    let l := lane.toNat
    let v := s.lane l
    (s.siteRecord.lanes ≤ l →
      exec (.laneMode tag lane value) s = .next (s.answer tag 5 .range .empty) ∧
      exec (.laneSetpoint tag lane value) s = .next (s.answer tag 5 .range .empty)) ∧
    (2 < value.toNat → exec (.laneMode tag lane value) s = .next (s.answer tag 5 .range .empty)) ∧
    (l < s.siteRecord.lanes → value.toNat ≤ 2 →
      let mode : LaneMode := if value = 1 then .full else if value = 2 then .reduced else v.mode
      exec (.laneMode tag lane value) s =
        .next ({ s with lanes := s.lanes.set l { v with mode := mode } }.answer tag 5 .done
          (.laneInForce v.state v.onRequest mode v.setpoint))) ∧
    (l < s.siteRecord.lanes →
      let setpoint : Nat := min value.toNat 1250
      exec (.laneSetpoint tag lane value) s =
        .next ({ s with lanes := s.lanes.set l { v with setpoint := setpoint } }.answer tag 5 .done
          (.laneInForce v.state v.onRequest v.mode setpoint)))

/-- CLEAR gets RANGE, and acts on no item, when the seen option is neither 0 nor 1 or a set names an index that does not exist;
one that names nothing is DONE. Otherwise it acts at one event on the rows in ascending index, then the zones, then the lanes,
and is PARTIAL with the rows and lanes that stayed, or DONE. Each named row drops its extreme and,
with the seen option, its seen flag; then an ASSERTED or CLEARING row whose RATIO source was HELD when the CLEAR was taken is
returned to IDLE and its point becomes NO_VALUE, an ALERT row queueing its release notice, a latched IDLE row is unlatched, and
an ASSERTED, CLEARING or PENDING row with any other source stays. So two rows on one HELD ratio are both returned; an undefined row
counts as cleared (R50, R70, R73, R171). -/
def Obligations.ClearOfRows : Prop :=
  (∀ (s : State) (tag : Tag) (seenOption rows0 rows1 rows2 rows3 lanes zones : Word), s.Ready →
    let command : Instr := .clear tag seenOption rows0 rows1 rows2 rows3 lanes zones
    let rowSet := namedBits [rows0, rows1, rows2, rows3]
    ((1 < seenOption.toNat ∨ rows3 ≠ 0 ∨ 256 ≤ lanes.toNat ∨ 256 ≤ zones.toNat) →
      exec command s = .next (s.answer tag 6 .range .empty)) ∧
    (seenOption.toNat ≤ 1 → rows3 = 0 → lanes.toNat < 256 → zones.toNat < 256 →
      let p : State × ClearTally := (namedBits [lanes]).foldl (fun q l => clearLane l q)
        ((namedBits [zones]).foldl (fun q z => clearZone z q)
          (rowSet.foldl (fun q r => clearRow s (seenOption == 1) r q) (s, ClearTally.zero)))
      let n := p.2
      exec command s = .next (p.1.answer tag 6
        (if n.stayedRows = [] ∧ n.stayedLanes = [] then .done else .partialDone)
        (.cleared n.stayedRows n.stayedLanes n.unlatched n.returned n.unlocked))) ∧
    (seenOption.toNat ≤ 1 → rows0 = 0 → rows1 = 0 → rows2 = 0 → rows3 = 0 → lanes = 0 → zones = 0 →
      exec command s = .next (s.answer tag 6 .done (.cleared [] [] 0 0 0))) ∧
    (∀ r d q, seenOption.toNat ≤ 1 → rowSet = [r] → r < rowCount → lanes = 0 →
      zones = 0 → s.activeSet.row r = some d → s.rowRuntime r = some q →
      let w : RowRuntime := { q with extreme := none, seen := if seenOption = 1 then false else q.seen }
      (q.phase = .idle → q.latched = true →
        exec command s =
          .next ((s.setRow r { w with progress := 0, latched := false, ceilingInForce := none }).answer tag 6 .done
            (.cleared [] [] 1 0 0))) ∧
      (q.phase = .idle → q.latched = false →
        exec command s = .next ((s.setRow r w).answer tag 6 .done (.cleared [] [] 0 0 0))) ∧
      (q.phase ≠ .idle → (q.phase = .pending ∨ ∀ i, ¬ s.HeldSource r i) →
        exec command s = .next ((s.setRow r w).answer tag 6 .partialDone (.cleared [r] [] 0 0 0))) ∧
      (∀ i, q.phase = .asserted ∨ q.phase = .clearing → s.HeldSource r i →
        ∃ t : State,
          exec command s = .next (t.answer tag 6 .done (.cleared [] [] (if q.latched then 1 else 0) 1 0)) ∧
          t = { s with
            rowRuntimes := s.rowRuntimes.set r (some
              { w with phase := .idle, progress := 0, latched := false, ceilingInForce := none })
            pointRecords := s.pointRecords.set i (some
              { state := .noValue, value := none, overRange := false, noisy := false })
            notices := t.notices, noticesDropped := t.noticesDropped, droppedCount := t.droppedCount } ∧
          (d.report = .quiet → t.NoticesOf s) ∧
          (d.report = .alert → t.NoticesOf (s.queuing
            [{ subject := .row r, state := .row .idle false, value := .none, sweep := s.lastEvaluation
               changes := 1 }])))) ∧
    (∀ r, seenOption.toNat ≤ 1 → rowSet = [r] → r < rowCount → lanes = 0 →
      zones = 0 → s.activeSet.row r = none → exec command s = .next (s.answer tag 6 .done (.cleared [] [] 0 0 0))) ∧
    ∀ r k i d e q x, seenOption.toNat ≤ 1 → rowSet = [r, k] → k < rowCount → lanes = 0 → zones = 0 →
      s.activeSet.row r = some d → s.activeSet.row k = some e → s.rowRuntime r = some q → s.rowRuntime k = some x →
      (q.phase = .asserted ∨ q.phase = .clearing) → (x.phase = .asserted ∨ x.phase = .clearing) →
      s.HeldSource r i → s.HeldSource k i →
      let ended (q : RowRuntime) : RowRuntime :=
        { q with
          phase := .idle, progress := 0, latched := false, ceilingInForce := none, extreme := none
          seen := if seenOption = 1 then false else q.seen }
      ∃ t : State,
        exec command s =
          .next (t.answer tag 6 .done
            (.cleared [] [] ((if q.latched then 1 else 0) + if x.latched then 1 else 0) 2 0)) ∧
        t = { s with
          rowRuntimes := (s.rowRuntimes.set r (some (ended q))).set k (some (ended x))
          pointRecords := s.pointRecords.set i (some
            { state := .noValue, value := none, overRange := false, noisy := false })
          notices := t.notices, noticesDropped := t.noticesDropped, droppedCount := t.droppedCount } ∧
        t.NoticesOf (s.queuing
          (((if d.report = .alert then [r] else []) ++ if e.report = .alert then [k] else []).map fun j =>
            { subject := .row j, state := .row .idle false, value := .none, sweep := s.lastEvaluation, changes := 1 }))) ∧
  (∀ ws : List Word, (namedBits ws).Pairwise (· < ·) ∧
    ∀ k, k ∈ namedBits ws ↔ k < 16 * ws.length ∧ (ws.getD (k / 16) 0).getLsbD (k % 16) = true) ∧
  ∀ (s t : State) (n : ClearTally) (seenGiven : Bool) (r : Nat),
    let after := clearRow s seenGiven r (t, n)
    ((t.activeSet.row r = none ∨ t.rowRuntime r = none) → after = (t, n)) ∧
    ∀ d q, t.activeSet.row r = some d → t.rowRuntime r = some q →
      let w : RowRuntime := { q with extreme := none, seen := if seenGiven then false else q.seen }
      (q.phase = .idle → q.latched = true →
        after = (t.setRow r { w with progress := 0, latched := false, ceilingInForce := none },
          { n with unlatched := n.unlatched + 1 })) ∧
      (q.phase = .idle → q.latched = false → after = (t.setRow r w, n)) ∧
      (q.phase ≠ .idle → (q.phase = .pending ∨ ∀ i, ¬ s.HeldSource r i) →
        after = (t.setRow r w, { n with stayedRows := n.stayedRows ++ [r] })) ∧
      ∀ i, q.phase = .asserted ∨ q.phase = .clearing → s.HeldSource r i →
        after.2 =
          { n with unlatched := n.unlatched + (if q.latched then 1 else 0), returned := n.returned + 1 } ∧
        after.1 = { t with
          rowRuntimes := t.rowRuntimes.set r (some
            { w with phase := .idle, progress := 0, latched := false, ceilingInForce := none })
          pointRecords := t.pointRecords.set i (some
            { state := .noValue, value := none, overRange := false, noisy := false })
          notices := after.1.notices, noticesDropped := after.1.noticesDropped
          droppedCount := after.1.droppedCount } ∧
        (d.report = .quiet → after.1.NoticesOf t) ∧
        (d.report = .alert → after.1.NoticesOf (t.queuing
          [{ subject := .row r, state := .row .idle false, value := .none, sweep := t.lastEvaluation, changes := 1 }]))

/-- CLEAR of one zone: a zone in LOCKOUT enters NORMAL with an empty history, and each member in LOCKOUT with cause ARC
goes to PROBE when its on request is set and to OFF otherwise; any other zone below Z has its history emptied alone. CLEAR
of one lane in LOCKOUT with cause PROBE puts it into PROBE; a lane in LOCKOUT with cause ARC stays; a lane in OFF loses a
lockout cause PROBE; any other lane, and a zone at or above Z, is left as it is. A zone that leaves LOCKOUT queues its notice, and
then each lane that leaves LOCKOUT its own, in ascending lane number (R115, R116, R135). Each such lane's whole record is given
but for the retries used of a lane that goes to OFF, which are left free here (log entry 32). A lane with cause ARC that is named
together with its zone counts as cleared, and in a CLEAR of several items each zone and each lane adds to what the items before it
have found (R171). -/
def Obligations.ClearOfOneZoneOrLane : Prop :=
  (∀ (t : State) (n : ClearTally) (k : Nat),
    let joined (m : ClearTally) : ClearTally :=
      { stayedRows := n.stayedRows ++ m.stayedRows, stayedLanes := n.stayedLanes ++ m.stayedLanes
        unlatched := n.unlatched + m.unlatched, returned := n.returned + m.returned, unlocked := n.unlocked + m.unlocked }
    let zone := clearZone k (t, ClearTally.zero)
    let lane := clearLane k (t, ClearTally.zero)
    clearZone k (t, n) = (zone.1, joined zone.2) ∧ clearLane k (t, n) = (lane.1, joined lane.2) ∧
    (t.Ready → zone.1.Ready ∧ lane.1.Ready)) ∧
  ∀ (s : State) (tag : Tag) (k : Nat), s.Ready → k < 8 → s.lanes.length = laneCount → s.multipliers.length = laneCount →
    s.zones.length = zoneCount → s.siteRecord.lanes ≤ laneCount → s.siteRecord.zones ≤ zoneCount →
    let bit : Word := BitVec.ofNat 16 (2 ^ k)
    (k < s.siteRecord.zones → (s.zone k).state ≠ .lockout →
      exec (.clear tag 0 0 0 0 0 0 bit) s =
        .next ((s.setZone k { s.zone k with arcHistory := [] }).answer tag 6 .done (.cleared [] [] 0 0 0))) ∧
    (k < s.siteRecord.zones → (s.zone k).state = .lockout →
      ∃ (t : State) (n : Nat),
        exec (.clear tag 0 0 0 0 0 0 bit) s = .next (t.answer tag 6 .done (.cleared [] [] 0 0 n)) ∧
        t.zones = s.zones.set k { state := .normal, blankRemaining := 0, arcHistory := [] } ∧
        (∀ l, l < laneCount →
          let v := s.lane l
          if l < s.siteRecord.lanes ∧ s.activeSet.zoneOf l = some k ∧ v.state = .lockout ∧ v.lockoutCause = .arc then
            (v.onRequest = true → t.multiplier l = 0 ∧ t.lane l = { v with
              state := .probe, lockoutCause := .none, retriesUsed := 0, probeOwed := false
              probeRemaining := s.activeSet.parameters.probeLength, target := 0, applied := 0
              stateEntrySweep := s.lastEvaluation, restriking := false }) ∧
            (v.onRequest = false → t.multiplier l = multiplierOf v.applied ∧ t.lane l = { v with
              state := .off, lockoutCause := .none, retriesUsed := (t.lane l).retriesUsed
              stateEntrySweep := s.lastEvaluation, restriking := false })
          else t.lane l = v ∧ t.multiplier l = s.multiplier l) ∧
        (∀ unlocked : List Nat, unlocked.Pairwise (· < ·) →
          (∀ l, l ∈ unlocked ↔ l < laneCount ∧ l < s.siteRecord.lanes ∧ s.activeSet.zoneOf l = some k ∧
            (s.lane l).state = .lockout ∧ (s.lane l).lockoutCause = .arc) →
          n = unlocked.length ∧
          t.NoticesOf (s.queuing
            ({ subject := .zone k, state := .zone .normal, value := .number 0, sweep := s.lastEvaluation, changes := 1 } ::
            unlocked.map fun l =>
              { subject := .lane l, state := .lane (if (s.lane l).onRequest then .probe else .off)
                value := .number (t.lane l).applied, sweep := s.lastEvaluation, changes := 1 }))) ∧
        t = { s with
          zones := t.zones, lanes := t.lanes, multipliers := t.multipliers, notices := t.notices
          noticesDropped := t.noticesDropped, droppedCount := t.droppedCount }) ∧
    (s.siteRecord.zones ≤ k →
      exec (.clear tag 0 0 0 0 0 0 bit) s = .next (s.answer tag 6 .done (.cleared [] [] 0 0 0))) ∧
    (∀ m, k < s.siteRecord.zones → (s.zone k).state = .lockout → m < s.siteRecord.lanes →
      s.activeSet.zoneOf m = some k → (s.lane m).state = .lockout → (s.lane m).lockoutCause = .arc →
      exec (.clear tag 0 0 0 0 0 (BitVec.ofNat 16 (2 ^ m)) bit) s = exec (.clear tag 0 0 0 0 0 0 bit) s) ∧
    ((s.siteRecord.lanes ≤ k ∨ ((s.lane k).state ≠ .lockout ∧
        ((s.lane k).state ≠ .off ∨ (s.lane k).lockoutCause ≠ .probe))) →
      exec (.clear tag 0 0 0 0 0 bit 0) s = .next (s.answer tag 6 .done (.cleared [] [] 0 0 0))) ∧
    (k < s.siteRecord.lanes → (s.lane k).state = .off → (s.lane k).lockoutCause = .probe →
      exec (.clear tag 0 0 0 0 0 bit 0) s =
        .next ({ s with lanes := s.lanes.set k { s.lane k with lockoutCause := .none } }.answer tag 6 .done
          (.cleared [] [] 0 0 0))) ∧
    (k < s.siteRecord.lanes → (s.lane k).state = .lockout →
      ((s.lane k).lockoutCause = .arc →
        exec (.clear tag 0 0 0 0 0 bit 0) s = .next (s.answer tag 6 .partialDone (.cleared [] [k] 0 0 0))) ∧
      ((s.lane k).lockoutCause = .probe →
        ∃ t : State,
          exec (.clear tag 0 0 0 0 0 bit 0) s = .next (t.answer tag 6 .done (.cleared [] [] 0 0 1)) ∧
          t = { s with
            lanes := s.lanes.set k { s.lane k with
              state := .probe, lockoutCause := .none, retriesUsed := 0, probeOwed := false
              probeRemaining := s.activeSet.parameters.probeLength, target := 0, applied := 0
              stateEntrySweep := s.lastEvaluation, restriking := false }
            multipliers := s.multipliers.set k 0, notices := t.notices, noticesDropped := t.noticesDropped
            droppedCount := t.droppedCount } ∧
          t.NoticesOf (s.queuing
            [{ subject := .lane k, state := .lane .probe, value := .number 0, sweep := s.lastEvaluation
               changes := 1 }])))

/-- Each READ of a lane, zone, row, point, curve or head returns the item as it stands with DONE, gets RANGE beyond the
item's indices, and changes nothing else (R52, R77, R94, R119, R138, R165, R170). What a lane at or above L shows beside
state OFF and zero scales is the model's choice (log entry 14), and so is the order of its mute causes (log entry 36). -/
def Obligations.IndexedReadsReturnTheirItem : Prop :=
  ReadReturns .readLane 8 (fun s l => .lane (s.activeSet.plan l)
    (if l < s.siteRecord.lanes then s.lane l
     else { s.lane l with
       state := .off, ceiling := 0, demand := 0, grant := 0, budgetCeiling := 0, target := 0, applied := 0 })
    (s.muteCauses l)) ∧
  ReadReturns .readZone 8 (fun s z =>
    if z < s.siteRecord.zones then
      .zone (s.zone z) ((List.range s.siteRecord.lanes).filter fun l => s.activeSet.zoneOf l == some z)
    else .zone { state := .normal, blankRemaining := 0, arcHistory := [] } []) ∧
  ReadReturns .readRow 48 (fun s r => match s.activeSet.row r, s.rowRuntime r with
    | some d, some q => .row (some (d, q)) (q.phase == .asserted || q.phase == .clearing || q.latched)
    | _, _ => .row none false) ∧
  ReadReturns .readPoint 64 (fun s i => match s.activeSet.point i with
    | some e => .point (some (e, s.pointOrNone i))
    | none => .point none) ∧
  ReadReturns .readCurve 4 (fun s c => .curve (s.activeSet.curve c)) ∧
  ReadReturns .readHead 16 (fun s k =>
    .head (s.activeSet.head k) (s.reportedMode k) (s.staleCount k) (s.isHeadLost k))

/-- The READs of the site record, the parameters and both statistics return them and change nothing else; a READ of a
pending entry returns it as loaded, or RANGE for a part or index that does not exist; a READ of the alert set returns its
members and clears the dropped flag and count alone (R14, R35, R150, R165, R170, R174). -/
def Obligations.OtherReadsReturnTheirItem : Prop :=
  ∀ (s : State) (tag : Tag) (index part : Word), s.Ready →
    exec (.readSiteRecord tag) s =
      .next (s.answer tag 7 .done (.siteRecord s.siteRecord s.phase false s.budget)) ∧
    exec (.readParameters tag) s = .next (s.answer tag 7 .done (.parameters s.activeSet.parameters)) ∧
    exec (.readLinkStatistics tag) s = .next (s.answer tag 7 .done (.linkStatistics s.linkStatistics)) ∧
    exec (.readSweepStatistics tag) s = .next (s.answer tag 7 .done (.sweepStatistics s.sweepStatistics)) ∧
    exec (.readAlertSet tag) s =
      .next ({ s with noticesDropped := false, droppedCount := 0 }.answer tag 7 .done
        (.alertSet s.alertSet s.noticesDropped s.droppedCount s.notices.length)) ∧
    (let found : Option PendingEntry :=
      match part.toNat with
      | 0 => if index.toNat < 64 then some (.point (s.pendingSet.point index.toNat)) else none
      | 1 => if index.toNat < 16 then some (.head (s.pendingSet.head index.toNat)) else none
      | 2 => if index.toNat < 4 then some (.curve (s.pendingSet.curve index.toNat)) else none
      | 3 => if index.toNat < 48 then some (.row (s.pendingSet.row index.toNat)) else none
      | 4 => if index.toNat < 8 then some (.zone (s.pendingSet.zoneEntry index.toNat)) else none
      | 5 => if index.toNat < 8 then some (.lane (s.pendingSet.plan index.toNat)) else none
      | 6 => if index.toNat < 1 then some (.parameters s.pendingSet.parameters) else none
      | _ => none
     exec (.readPendingEntry tag index part) s =
       match found with
       | some e => .next (s.answer tag 7 .done (.pendingEntry e))
       | none => .next (s.answer tag 7 .range .empty))

/-- The alert set has a member exactly for each effective ALERT row, each lane in LOCKOUT, each raised HEAD_LOST and each
raised system condition, and ALERT_N is low exactly while it is non-empty (R177). The site summary word shows the phase,
the alert set, SENSE_BLIND, INHIBIT, LINK_LOSS, any LOCKOUT, any MUTED, the dropped flag and a pending activation in bits 0
to 8, and 0 in bits 15..9 (R13, section 11.2). That these are computed when read is log entry 22, and that they
follow the set as it stands inside an evaluation too is log entry 37. -/
def Obligations.AlertFollowsItsMembers : Prop :=
  ∀ s : State, s.inReset = false →
    (∀ r, r ∈ s.alertSet.rows ↔ r < rowCount ∧ ∃ d q, s.activeSet.row r = some d ∧ s.rowRuntime r = some q ∧
      d.report = .alert ∧ (q.phase = .asserted ∨ q.phase = .clearing ∨ q.latched = true)) ∧
    (∀ l, l ∈ s.alertSet.lanes ↔ l < laneCount ∧ (s.lane l).state = .lockout) ∧
    (∀ k, k ∈ s.alertSet.headLost ↔ k < headCount ∧ s.isHeadLost k = true) ∧
    (s.alertSet.senseBlind = true ↔ s.senseBlind = true) ∧ (s.alertSet.linkLoss = true ↔ s.link ≠ .locked) ∧
    (s.alertSet.inhibit = true ↔ s.forceInhibit = true) ∧ (s.alertSet.arcLineStuck = true ↔ s.arcMasked = true) ∧
    (s.alertLow = true ↔
      (∃ r, r ∈ s.alertSet.rows) ∨ (∃ l, l ∈ s.alertSet.lanes) ∨ (∃ k, k ∈ s.alertSet.headLost) ∨
      s.senseBlind = true ∨ s.link ≠ .locked ∨ s.forceInhibit = true ∨ s.arcMasked = true) ∧
    (let bit (i : Nat) : Prop := s.siteSummary.getLsbD i = true
     (bit 0 ↔ s.phase = .service) ∧ (bit 1 ↔ s.alertLow = true) ∧ (bit 2 ↔ s.senseBlind = true) ∧
     (bit 3 ↔ s.forceInhibit = true) ∧ (bit 4 ↔ s.link ≠ .locked) ∧
     (bit 5 ↔ ∃ l, l < laneCount ∧ (s.lane l).state = .lockout) ∧
     (bit 6 ↔ ∃ l, l < laneCount ∧ (s.lane l).state = .muted) ∧ (bit 7 ↔ s.noticesDropped = true) ∧
     (bit 8 ↔ s.waiting.isSome = true) ∧ ∀ i, 9 ≤ i → ¬ bit i)

/-- RESTART gives every block its restart values at one event and keeps the tables, the site record, the phase, the link,
the sweep number, the statistics, the arc line, the replies and the refusal record (R16, R37, R51, R76, R118, R137, R149,
R172, R178). -/
def Obligations.RestartClearsTheProtection : Prop :=
  ∀ (s : State) (tag : Tag), s.Ready →
    exec (.restart tag) s =
      .next ({ s with
        multipliers := List.replicate 8 0
        forceInhibit := s.inhibitLow
        inFlight := none
        consecutiveFailures := 0
        staleCounts := List.replicate 16 0
        senseBlind := false
        headLost := List.replicate 16 false
        blindMute := false
        pointRecords := s.pointRecords.map fun (p : Option PointRecord) => p.map fun _ =>
          { state := .noValue, value := none, overRange := false, noisy := false }
        rowRuntimes := s.rowRuntimes.map fun (q : Option RowRuntime) => q.map fun _ =>
          { phase := .idle, progress := 0, latched := false, seen := false, firstSweep := none, assertions := 0
            extreme := none, ceilingInForce := none }
        zones := List.replicate 8 { state := .normal, blankRemaining := 0, arcHistory := [] }
        lanes := s.lanes.map fun (v : Lane) =>
          { onRequest := false, mode := v.mode, setpoint := v.setpoint, state := .off, ceiling := 0, demand := 0
            grant := 0, budgetCeiling := 0, target := 0, applied := 0, probeRemaining := 0, retriesUsed := 0
            lockoutCause := .none, muteInvolvedLatch := false, probeOwed := false, firstTurnOnDone := false
            stateEntrySweep := s.lastEvaluation, restriking := false }
        budget := { value := 1000, siteBudget := 0, demandSum := 0, short := false, unassigned := 0 }
        notices := []
        noticesDropped := false
        droppedCount := 0
        snapshotCount := 0
        snapshot := none }.answer tag 8 .done (.restarted s.lastEvaluation))

/-- A command whose kind code is none of the eight is answered UNKNOWN with its kind as received, and changes nothing
else (R166, R169, R180). -/
def Obligations.UnknownCommandIsAnsweredUnknown : Prop :=
  ∀ (s : State) (tag : Tag) (kind : Word) (arguments : List Word), s.Ready →
    (kind = 0 ∨ 8 < kind.toNat) →
    exec (.unknown tag kind arguments) s = .next (s.answer tag kind .unknown .empty)
end

