-- ==== Sys2Proof/Laws/State.lean ====
section
/-! SUPPORT. The small lemmas of the state: what each shared operation over State leaves in every field, one lemma per
field, so that no later proof unfolds a record update. -/

namespace Sys2Proof.Machine

/-! ### Record writes -/

@[simp] theorem State.setLane_inReset (s : State) (l : Nat) (v : Lane) : (s.setLane l v).inReset = s.inReset := rfl
@[simp] theorem State.setLane_inhibitLow (s : State) (l : Nat) (v : Lane) : (s.setLane l v).inhibitLow = s.inhibitLow := rfl
@[simp] theorem State.setLane_arcLow (s : State) (l : Nat) (v : Lane) : (s.setLane l v).arcLow = s.arcLow := rfl
@[simp] theorem State.setLane_probePolHigh (s : State) (l : Nat) (v : Lane) : (s.setLane l v).probePolHigh = s.probePolHigh := rfl
@[simp] theorem State.setLane_link (s : State) (l : Nat) (v : Lane) : (s.setLane l v).link = s.link := rfl
@[simp] theorem State.setLane_goodFrames (s : State) (l : Nat) (v : Lane) : (s.setLane l v).goodFrames = s.goodFrames := rfl
@[simp] theorem State.setLane_badFrames (s : State) (l : Nat) (v : Lane) : (s.setLane l v).badFrames = s.badFrames := rfl
@[simp] theorem State.setLane_multipliers (s : State) (l : Nat) (v : Lane) : (s.setLane l v).multipliers = s.multipliers := rfl
@[simp] theorem State.setLane_holdingSlots (s : State) (l : Nat) (v : Lane) : (s.setLane l v).holdingSlots = s.holdingSlots := rfl
@[simp] theorem State.setLane_forceArcLine (s : State) (l : Nat) (v : Lane) : (s.setLane l v).forceArcLine = s.forceArcLine := rfl
@[simp] theorem State.setLane_forceInhibit (s : State) (l : Nat) (v : Lane) : (s.setLane l v).forceInhibit = s.forceInhibit := rfl
@[simp] theorem State.setLane_resolvingSweep (s : State) (l : Nat) (v : Lane) : (s.setLane l v).resolvingSweep = s.resolvingSweep := rfl
@[simp] theorem State.setLane_arcMasked (s : State) (l : Nat) (v : Lane) : (s.setLane l v).arcMasked = s.arcMasked := rfl
@[simp] theorem State.setLane_reportHold (s : State) (l : Nat) (v : Lane) : (s.setLane l v).reportHold = s.reportHold := rfl
@[simp] theorem State.setLane_linkStatistics (s : State) (l : Nat) (v : Lane) : (s.setLane l v).linkStatistics = s.linkStatistics := rfl
@[simp] theorem State.setLane_lanePorts (s : State) (l : Nat) (v : Lane) : (s.setLane l v).lanePorts = s.lanePorts := rfl
@[simp] theorem State.setLane_returnPort (s : State) (l : Nat) (v : Lane) : (s.setLane l v).returnPort = s.returnPort := rfl
@[simp] theorem State.setLane_loopOutput (s : State) (l : Nat) (v : Lane) : (s.setLane l v).loopOutput = s.loopOutput := rfl
@[simp] theorem State.setLane_inFlight (s : State) (l : Nat) (v : Lane) : (s.setLane l v).inFlight = s.inFlight := rfl
@[simp] theorem State.setLane_sweepNumber (s : State) (l : Nat) (v : Lane) : (s.setLane l v).sweepNumber = s.sweepNumber := rfl
@[simp] theorem State.setLane_intervalPeriod (s : State) (l : Nat) (v : Lane) : (s.setLane l v).intervalPeriod = s.intervalPeriod := rfl
@[simp] theorem State.setLane_reportedModes (s : State) (l : Nat) (v : Lane) : (s.setLane l v).reportedModes = s.reportedModes := rfl
@[simp] theorem State.setLane_consecutiveFailures (s : State) (l : Nat) (v : Lane) : (s.setLane l v).consecutiveFailures = s.consecutiveFailures := rfl
@[simp] theorem State.setLane_staleCounts (s : State) (l : Nat) (v : Lane) : (s.setLane l v).staleCounts = s.staleCounts := rfl
@[simp] theorem State.setLane_senseBlind (s : State) (l : Nat) (v : Lane) : (s.setLane l v).senseBlind = s.senseBlind := rfl
@[simp] theorem State.setLane_headLost (s : State) (l : Nat) (v : Lane) : (s.setLane l v).headLost = s.headLost := rfl
@[simp] theorem State.setLane_blindMute (s : State) (l : Nat) (v : Lane) : (s.setLane l v).blindMute = s.blindMute := rfl
@[simp] theorem State.setLane_sweepStatistics (s : State) (l : Nat) (v : Lane) : (s.setLane l v).sweepStatistics = s.sweepStatistics := rfl
@[simp] theorem State.setLane_pointRecords (s : State) (l : Nat) (v : Lane) : (s.setLane l v).pointRecords = s.pointRecords := rfl
@[simp] theorem State.setLane_rowRuntimes (s : State) (l : Nat) (v : Lane) : (s.setLane l v).rowRuntimes = s.rowRuntimes := rfl
@[simp] theorem State.setLane_zones (s : State) (l : Nat) (v : Lane) : (s.setLane l v).zones = s.zones := rfl
@[simp] theorem State.setLane_budget (s : State) (l : Nat) (v : Lane) : (s.setLane l v).budget = s.budget := rfl
@[simp] theorem State.setLane_activeSet (s : State) (l : Nat) (v : Lane) : (s.setLane l v).activeSet = s.activeSet := rfl
@[simp] theorem State.setLane_pendingSet (s : State) (l : Nat) (v : Lane) : (s.setLane l v).pendingSet = s.pendingSet := rfl
@[simp] theorem State.setLane_waiting (s : State) (l : Nat) (v : Lane) : (s.setLane l v).waiting = s.waiting := rfl
@[simp] theorem State.setLane_siteRecord (s : State) (l : Nat) (v : Lane) : (s.setLane l v).siteRecord = s.siteRecord := rfl
@[simp] theorem State.setLane_phase (s : State) (l : Nat) (v : Lane) : (s.setLane l v).phase = s.phase := rfl
@[simp] theorem State.setLane_commands (s : State) (l : Nat) (v : Lane) : (s.setLane l v).commands = s.commands := rfl
@[simp] theorem State.setLane_replies (s : State) (l : Nat) (v : Lane) : (s.setLane l v).replies = s.replies := rfl
@[simp] theorem State.setLane_refusal (s : State) (l : Nat) (v : Lane) : (s.setLane l v).refusal = s.refusal := rfl
@[simp] theorem State.setLane_notices (s : State) (l : Nat) (v : Lane) : (s.setLane l v).notices = s.notices := rfl
@[simp] theorem State.setLane_noticesDropped (s : State) (l : Nat) (v : Lane) : (s.setLane l v).noticesDropped = s.noticesDropped := rfl
@[simp] theorem State.setLane_droppedCount (s : State) (l : Nat) (v : Lane) : (s.setLane l v).droppedCount = s.droppedCount := rfl
@[simp] theorem State.setLane_snapshotCount (s : State) (l : Nat) (v : Lane) : (s.setLane l v).snapshotCount = s.snapshotCount := rfl
@[simp] theorem State.setLane_snapshot (s : State) (l : Nat) (v : Lane) : (s.setLane l v).snapshot = s.snapshot := rfl
@[simp] theorem State.setLane_evaluation (s : State) (l : Nat) (v : Lane) : (s.setLane l v).evaluation = s.evaluation := rfl
@[simp] theorem State.setLane_lastEvaluation (s : State) (l : Nat) (v : Lane) : (s.setLane l v).lastEvaluation = s.lastEvaluation := rfl
@[simp] theorem State.setLane_draws (s : State) (l : Nat) (v : Lane) : (s.setLane l v).draws = s.draws := rfl
@[simp] theorem State.setLane_pending (s : State) (l : Nat) (v : Lane) : (s.setLane l v).pending = s.pending := rfl

@[simp] theorem State.setLane_lanes (s : State) (l : Nat) (v : Lane) : (s.setLane l v).lanes = s.lanes.set l v := rfl

@[simp] theorem State.setZone_inReset (s : State) (z : Nat) (v : Zone) : (s.setZone z v).inReset = s.inReset := rfl
@[simp] theorem State.setZone_inhibitLow (s : State) (z : Nat) (v : Zone) : (s.setZone z v).inhibitLow = s.inhibitLow := rfl
@[simp] theorem State.setZone_arcLow (s : State) (z : Nat) (v : Zone) : (s.setZone z v).arcLow = s.arcLow := rfl
@[simp] theorem State.setZone_probePolHigh (s : State) (z : Nat) (v : Zone) : (s.setZone z v).probePolHigh = s.probePolHigh := rfl
@[simp] theorem State.setZone_link (s : State) (z : Nat) (v : Zone) : (s.setZone z v).link = s.link := rfl
@[simp] theorem State.setZone_goodFrames (s : State) (z : Nat) (v : Zone) : (s.setZone z v).goodFrames = s.goodFrames := rfl
@[simp] theorem State.setZone_badFrames (s : State) (z : Nat) (v : Zone) : (s.setZone z v).badFrames = s.badFrames := rfl
@[simp] theorem State.setZone_multipliers (s : State) (z : Nat) (v : Zone) : (s.setZone z v).multipliers = s.multipliers := rfl
@[simp] theorem State.setZone_holdingSlots (s : State) (z : Nat) (v : Zone) : (s.setZone z v).holdingSlots = s.holdingSlots := rfl
@[simp] theorem State.setZone_forceArcLine (s : State) (z : Nat) (v : Zone) : (s.setZone z v).forceArcLine = s.forceArcLine := rfl
@[simp] theorem State.setZone_forceInhibit (s : State) (z : Nat) (v : Zone) : (s.setZone z v).forceInhibit = s.forceInhibit := rfl
@[simp] theorem State.setZone_resolvingSweep (s : State) (z : Nat) (v : Zone) : (s.setZone z v).resolvingSweep = s.resolvingSweep := rfl
@[simp] theorem State.setZone_arcMasked (s : State) (z : Nat) (v : Zone) : (s.setZone z v).arcMasked = s.arcMasked := rfl
@[simp] theorem State.setZone_reportHold (s : State) (z : Nat) (v : Zone) : (s.setZone z v).reportHold = s.reportHold := rfl
@[simp] theorem State.setZone_linkStatistics (s : State) (z : Nat) (v : Zone) : (s.setZone z v).linkStatistics = s.linkStatistics := rfl
@[simp] theorem State.setZone_lanePorts (s : State) (z : Nat) (v : Zone) : (s.setZone z v).lanePorts = s.lanePorts := rfl
@[simp] theorem State.setZone_returnPort (s : State) (z : Nat) (v : Zone) : (s.setZone z v).returnPort = s.returnPort := rfl
@[simp] theorem State.setZone_loopOutput (s : State) (z : Nat) (v : Zone) : (s.setZone z v).loopOutput = s.loopOutput := rfl
@[simp] theorem State.setZone_inFlight (s : State) (z : Nat) (v : Zone) : (s.setZone z v).inFlight = s.inFlight := rfl
@[simp] theorem State.setZone_sweepNumber (s : State) (z : Nat) (v : Zone) : (s.setZone z v).sweepNumber = s.sweepNumber := rfl
@[simp] theorem State.setZone_intervalPeriod (s : State) (z : Nat) (v : Zone) : (s.setZone z v).intervalPeriod = s.intervalPeriod := rfl
@[simp] theorem State.setZone_reportedModes (s : State) (z : Nat) (v : Zone) : (s.setZone z v).reportedModes = s.reportedModes := rfl
@[simp] theorem State.setZone_consecutiveFailures (s : State) (z : Nat) (v : Zone) : (s.setZone z v).consecutiveFailures = s.consecutiveFailures := rfl
@[simp] theorem State.setZone_staleCounts (s : State) (z : Nat) (v : Zone) : (s.setZone z v).staleCounts = s.staleCounts := rfl
@[simp] theorem State.setZone_senseBlind (s : State) (z : Nat) (v : Zone) : (s.setZone z v).senseBlind = s.senseBlind := rfl
@[simp] theorem State.setZone_headLost (s : State) (z : Nat) (v : Zone) : (s.setZone z v).headLost = s.headLost := rfl
@[simp] theorem State.setZone_blindMute (s : State) (z : Nat) (v : Zone) : (s.setZone z v).blindMute = s.blindMute := rfl
@[simp] theorem State.setZone_sweepStatistics (s : State) (z : Nat) (v : Zone) : (s.setZone z v).sweepStatistics = s.sweepStatistics := rfl
@[simp] theorem State.setZone_pointRecords (s : State) (z : Nat) (v : Zone) : (s.setZone z v).pointRecords = s.pointRecords := rfl
@[simp] theorem State.setZone_rowRuntimes (s : State) (z : Nat) (v : Zone) : (s.setZone z v).rowRuntimes = s.rowRuntimes := rfl
@[simp] theorem State.setZone_lanes (s : State) (z : Nat) (v : Zone) : (s.setZone z v).lanes = s.lanes := rfl
@[simp] theorem State.setZone_budget (s : State) (z : Nat) (v : Zone) : (s.setZone z v).budget = s.budget := rfl
@[simp] theorem State.setZone_activeSet (s : State) (z : Nat) (v : Zone) : (s.setZone z v).activeSet = s.activeSet := rfl
@[simp] theorem State.setZone_pendingSet (s : State) (z : Nat) (v : Zone) : (s.setZone z v).pendingSet = s.pendingSet := rfl
@[simp] theorem State.setZone_waiting (s : State) (z : Nat) (v : Zone) : (s.setZone z v).waiting = s.waiting := rfl
@[simp] theorem State.setZone_siteRecord (s : State) (z : Nat) (v : Zone) : (s.setZone z v).siteRecord = s.siteRecord := rfl
@[simp] theorem State.setZone_phase (s : State) (z : Nat) (v : Zone) : (s.setZone z v).phase = s.phase := rfl
@[simp] theorem State.setZone_commands (s : State) (z : Nat) (v : Zone) : (s.setZone z v).commands = s.commands := rfl
@[simp] theorem State.setZone_replies (s : State) (z : Nat) (v : Zone) : (s.setZone z v).replies = s.replies := rfl
@[simp] theorem State.setZone_refusal (s : State) (z : Nat) (v : Zone) : (s.setZone z v).refusal = s.refusal := rfl
@[simp] theorem State.setZone_notices (s : State) (z : Nat) (v : Zone) : (s.setZone z v).notices = s.notices := rfl
@[simp] theorem State.setZone_noticesDropped (s : State) (z : Nat) (v : Zone) : (s.setZone z v).noticesDropped = s.noticesDropped := rfl
@[simp] theorem State.setZone_droppedCount (s : State) (z : Nat) (v : Zone) : (s.setZone z v).droppedCount = s.droppedCount := rfl
@[simp] theorem State.setZone_snapshotCount (s : State) (z : Nat) (v : Zone) : (s.setZone z v).snapshotCount = s.snapshotCount := rfl
@[simp] theorem State.setZone_snapshot (s : State) (z : Nat) (v : Zone) : (s.setZone z v).snapshot = s.snapshot := rfl
@[simp] theorem State.setZone_evaluation (s : State) (z : Nat) (v : Zone) : (s.setZone z v).evaluation = s.evaluation := rfl
@[simp] theorem State.setZone_lastEvaluation (s : State) (z : Nat) (v : Zone) : (s.setZone z v).lastEvaluation = s.lastEvaluation := rfl
@[simp] theorem State.setZone_draws (s : State) (z : Nat) (v : Zone) : (s.setZone z v).draws = s.draws := rfl
@[simp] theorem State.setZone_pending (s : State) (z : Nat) (v : Zone) : (s.setZone z v).pending = s.pending := rfl

@[simp] theorem State.setZone_zones (s : State) (z : Nat) (v : Zone) : (s.setZone z v).zones = s.zones.set z v := rfl

@[simp] theorem State.setRow_inReset (s : State) (r : Nat) (v : RowRuntime) : (s.setRow r v).inReset = s.inReset := rfl
@[simp] theorem State.setRow_inhibitLow (s : State) (r : Nat) (v : RowRuntime) : (s.setRow r v).inhibitLow = s.inhibitLow := rfl
@[simp] theorem State.setRow_arcLow (s : State) (r : Nat) (v : RowRuntime) : (s.setRow r v).arcLow = s.arcLow := rfl
@[simp] theorem State.setRow_probePolHigh (s : State) (r : Nat) (v : RowRuntime) : (s.setRow r v).probePolHigh = s.probePolHigh := rfl
@[simp] theorem State.setRow_link (s : State) (r : Nat) (v : RowRuntime) : (s.setRow r v).link = s.link := rfl
@[simp] theorem State.setRow_goodFrames (s : State) (r : Nat) (v : RowRuntime) : (s.setRow r v).goodFrames = s.goodFrames := rfl
@[simp] theorem State.setRow_badFrames (s : State) (r : Nat) (v : RowRuntime) : (s.setRow r v).badFrames = s.badFrames := rfl
@[simp] theorem State.setRow_multipliers (s : State) (r : Nat) (v : RowRuntime) : (s.setRow r v).multipliers = s.multipliers := rfl
@[simp] theorem State.setRow_holdingSlots (s : State) (r : Nat) (v : RowRuntime) : (s.setRow r v).holdingSlots = s.holdingSlots := rfl
@[simp] theorem State.setRow_forceArcLine (s : State) (r : Nat) (v : RowRuntime) : (s.setRow r v).forceArcLine = s.forceArcLine := rfl
@[simp] theorem State.setRow_forceInhibit (s : State) (r : Nat) (v : RowRuntime) : (s.setRow r v).forceInhibit = s.forceInhibit := rfl
@[simp] theorem State.setRow_resolvingSweep (s : State) (r : Nat) (v : RowRuntime) : (s.setRow r v).resolvingSweep = s.resolvingSweep := rfl
@[simp] theorem State.setRow_arcMasked (s : State) (r : Nat) (v : RowRuntime) : (s.setRow r v).arcMasked = s.arcMasked := rfl
@[simp] theorem State.setRow_reportHold (s : State) (r : Nat) (v : RowRuntime) : (s.setRow r v).reportHold = s.reportHold := rfl
@[simp] theorem State.setRow_linkStatistics (s : State) (r : Nat) (v : RowRuntime) : (s.setRow r v).linkStatistics = s.linkStatistics := rfl
@[simp] theorem State.setRow_lanePorts (s : State) (r : Nat) (v : RowRuntime) : (s.setRow r v).lanePorts = s.lanePorts := rfl
@[simp] theorem State.setRow_returnPort (s : State) (r : Nat) (v : RowRuntime) : (s.setRow r v).returnPort = s.returnPort := rfl
@[simp] theorem State.setRow_loopOutput (s : State) (r : Nat) (v : RowRuntime) : (s.setRow r v).loopOutput = s.loopOutput := rfl
@[simp] theorem State.setRow_inFlight (s : State) (r : Nat) (v : RowRuntime) : (s.setRow r v).inFlight = s.inFlight := rfl
@[simp] theorem State.setRow_sweepNumber (s : State) (r : Nat) (v : RowRuntime) : (s.setRow r v).sweepNumber = s.sweepNumber := rfl
@[simp] theorem State.setRow_intervalPeriod (s : State) (r : Nat) (v : RowRuntime) : (s.setRow r v).intervalPeriod = s.intervalPeriod := rfl
@[simp] theorem State.setRow_reportedModes (s : State) (r : Nat) (v : RowRuntime) : (s.setRow r v).reportedModes = s.reportedModes := rfl
@[simp] theorem State.setRow_consecutiveFailures (s : State) (r : Nat) (v : RowRuntime) : (s.setRow r v).consecutiveFailures = s.consecutiveFailures := rfl
@[simp] theorem State.setRow_staleCounts (s : State) (r : Nat) (v : RowRuntime) : (s.setRow r v).staleCounts = s.staleCounts := rfl
@[simp] theorem State.setRow_senseBlind (s : State) (r : Nat) (v : RowRuntime) : (s.setRow r v).senseBlind = s.senseBlind := rfl
@[simp] theorem State.setRow_headLost (s : State) (r : Nat) (v : RowRuntime) : (s.setRow r v).headLost = s.headLost := rfl
@[simp] theorem State.setRow_blindMute (s : State) (r : Nat) (v : RowRuntime) : (s.setRow r v).blindMute = s.blindMute := rfl
@[simp] theorem State.setRow_sweepStatistics (s : State) (r : Nat) (v : RowRuntime) : (s.setRow r v).sweepStatistics = s.sweepStatistics := rfl
@[simp] theorem State.setRow_pointRecords (s : State) (r : Nat) (v : RowRuntime) : (s.setRow r v).pointRecords = s.pointRecords := rfl
@[simp] theorem State.setRow_zones (s : State) (r : Nat) (v : RowRuntime) : (s.setRow r v).zones = s.zones := rfl
@[simp] theorem State.setRow_lanes (s : State) (r : Nat) (v : RowRuntime) : (s.setRow r v).lanes = s.lanes := rfl
@[simp] theorem State.setRow_budget (s : State) (r : Nat) (v : RowRuntime) : (s.setRow r v).budget = s.budget := rfl
@[simp] theorem State.setRow_activeSet (s : State) (r : Nat) (v : RowRuntime) : (s.setRow r v).activeSet = s.activeSet := rfl
@[simp] theorem State.setRow_pendingSet (s : State) (r : Nat) (v : RowRuntime) : (s.setRow r v).pendingSet = s.pendingSet := rfl
@[simp] theorem State.setRow_waiting (s : State) (r : Nat) (v : RowRuntime) : (s.setRow r v).waiting = s.waiting := rfl
@[simp] theorem State.setRow_siteRecord (s : State) (r : Nat) (v : RowRuntime) : (s.setRow r v).siteRecord = s.siteRecord := rfl
@[simp] theorem State.setRow_phase (s : State) (r : Nat) (v : RowRuntime) : (s.setRow r v).phase = s.phase := rfl
@[simp] theorem State.setRow_commands (s : State) (r : Nat) (v : RowRuntime) : (s.setRow r v).commands = s.commands := rfl
@[simp] theorem State.setRow_replies (s : State) (r : Nat) (v : RowRuntime) : (s.setRow r v).replies = s.replies := rfl
@[simp] theorem State.setRow_refusal (s : State) (r : Nat) (v : RowRuntime) : (s.setRow r v).refusal = s.refusal := rfl
@[simp] theorem State.setRow_notices (s : State) (r : Nat) (v : RowRuntime) : (s.setRow r v).notices = s.notices := rfl
@[simp] theorem State.setRow_noticesDropped (s : State) (r : Nat) (v : RowRuntime) : (s.setRow r v).noticesDropped = s.noticesDropped := rfl
@[simp] theorem State.setRow_droppedCount (s : State) (r : Nat) (v : RowRuntime) : (s.setRow r v).droppedCount = s.droppedCount := rfl
@[simp] theorem State.setRow_snapshotCount (s : State) (r : Nat) (v : RowRuntime) : (s.setRow r v).snapshotCount = s.snapshotCount := rfl
@[simp] theorem State.setRow_snapshot (s : State) (r : Nat) (v : RowRuntime) : (s.setRow r v).snapshot = s.snapshot := rfl
@[simp] theorem State.setRow_evaluation (s : State) (r : Nat) (v : RowRuntime) : (s.setRow r v).evaluation = s.evaluation := rfl
@[simp] theorem State.setRow_lastEvaluation (s : State) (r : Nat) (v : RowRuntime) : (s.setRow r v).lastEvaluation = s.lastEvaluation := rfl
@[simp] theorem State.setRow_draws (s : State) (r : Nat) (v : RowRuntime) : (s.setRow r v).draws = s.draws := rfl
@[simp] theorem State.setRow_pending (s : State) (r : Nat) (v : RowRuntime) : (s.setRow r v).pending = s.pending := rfl

@[simp] theorem State.setRow_rowRuntimes (s : State) (r : Nat) (v : RowRuntime) :
    (s.setRow r v).rowRuntimes = s.rowRuntimes.set r (some v) := rfl

@[simp] theorem State.setPoint_inReset (s : State) (i : Nat) (v : PointRecord) : (s.setPoint i v).inReset = s.inReset := rfl
@[simp] theorem State.setPoint_inhibitLow (s : State) (i : Nat) (v : PointRecord) : (s.setPoint i v).inhibitLow = s.inhibitLow := rfl
@[simp] theorem State.setPoint_arcLow (s : State) (i : Nat) (v : PointRecord) : (s.setPoint i v).arcLow = s.arcLow := rfl
@[simp] theorem State.setPoint_probePolHigh (s : State) (i : Nat) (v : PointRecord) : (s.setPoint i v).probePolHigh = s.probePolHigh := rfl
@[simp] theorem State.setPoint_link (s : State) (i : Nat) (v : PointRecord) : (s.setPoint i v).link = s.link := rfl
@[simp] theorem State.setPoint_goodFrames (s : State) (i : Nat) (v : PointRecord) : (s.setPoint i v).goodFrames = s.goodFrames := rfl
@[simp] theorem State.setPoint_badFrames (s : State) (i : Nat) (v : PointRecord) : (s.setPoint i v).badFrames = s.badFrames := rfl
@[simp] theorem State.setPoint_multipliers (s : State) (i : Nat) (v : PointRecord) : (s.setPoint i v).multipliers = s.multipliers := rfl
@[simp] theorem State.setPoint_holdingSlots (s : State) (i : Nat) (v : PointRecord) : (s.setPoint i v).holdingSlots = s.holdingSlots := rfl
@[simp] theorem State.setPoint_forceArcLine (s : State) (i : Nat) (v : PointRecord) : (s.setPoint i v).forceArcLine = s.forceArcLine := rfl
@[simp] theorem State.setPoint_forceInhibit (s : State) (i : Nat) (v : PointRecord) : (s.setPoint i v).forceInhibit = s.forceInhibit := rfl
@[simp] theorem State.setPoint_resolvingSweep (s : State) (i : Nat) (v : PointRecord) : (s.setPoint i v).resolvingSweep = s.resolvingSweep := rfl
@[simp] theorem State.setPoint_arcMasked (s : State) (i : Nat) (v : PointRecord) : (s.setPoint i v).arcMasked = s.arcMasked := rfl
@[simp] theorem State.setPoint_reportHold (s : State) (i : Nat) (v : PointRecord) : (s.setPoint i v).reportHold = s.reportHold := rfl
@[simp] theorem State.setPoint_linkStatistics (s : State) (i : Nat) (v : PointRecord) : (s.setPoint i v).linkStatistics = s.linkStatistics := rfl
@[simp] theorem State.setPoint_lanePorts (s : State) (i : Nat) (v : PointRecord) : (s.setPoint i v).lanePorts = s.lanePorts := rfl
@[simp] theorem State.setPoint_returnPort (s : State) (i : Nat) (v : PointRecord) : (s.setPoint i v).returnPort = s.returnPort := rfl
@[simp] theorem State.setPoint_loopOutput (s : State) (i : Nat) (v : PointRecord) : (s.setPoint i v).loopOutput = s.loopOutput := rfl
@[simp] theorem State.setPoint_inFlight (s : State) (i : Nat) (v : PointRecord) : (s.setPoint i v).inFlight = s.inFlight := rfl
@[simp] theorem State.setPoint_sweepNumber (s : State) (i : Nat) (v : PointRecord) : (s.setPoint i v).sweepNumber = s.sweepNumber := rfl
@[simp] theorem State.setPoint_intervalPeriod (s : State) (i : Nat) (v : PointRecord) : (s.setPoint i v).intervalPeriod = s.intervalPeriod := rfl
@[simp] theorem State.setPoint_reportedModes (s : State) (i : Nat) (v : PointRecord) : (s.setPoint i v).reportedModes = s.reportedModes := rfl
@[simp] theorem State.setPoint_consecutiveFailures (s : State) (i : Nat) (v : PointRecord) : (s.setPoint i v).consecutiveFailures = s.consecutiveFailures := rfl
@[simp] theorem State.setPoint_staleCounts (s : State) (i : Nat) (v : PointRecord) : (s.setPoint i v).staleCounts = s.staleCounts := rfl
@[simp] theorem State.setPoint_senseBlind (s : State) (i : Nat) (v : PointRecord) : (s.setPoint i v).senseBlind = s.senseBlind := rfl
@[simp] theorem State.setPoint_headLost (s : State) (i : Nat) (v : PointRecord) : (s.setPoint i v).headLost = s.headLost := rfl
@[simp] theorem State.setPoint_blindMute (s : State) (i : Nat) (v : PointRecord) : (s.setPoint i v).blindMute = s.blindMute := rfl
@[simp] theorem State.setPoint_sweepStatistics (s : State) (i : Nat) (v : PointRecord) : (s.setPoint i v).sweepStatistics = s.sweepStatistics := rfl
@[simp] theorem State.setPoint_rowRuntimes (s : State) (i : Nat) (v : PointRecord) : (s.setPoint i v).rowRuntimes = s.rowRuntimes := rfl
@[simp] theorem State.setPoint_zones (s : State) (i : Nat) (v : PointRecord) : (s.setPoint i v).zones = s.zones := rfl
@[simp] theorem State.setPoint_lanes (s : State) (i : Nat) (v : PointRecord) : (s.setPoint i v).lanes = s.lanes := rfl
@[simp] theorem State.setPoint_budget (s : State) (i : Nat) (v : PointRecord) : (s.setPoint i v).budget = s.budget := rfl
@[simp] theorem State.setPoint_activeSet (s : State) (i : Nat) (v : PointRecord) : (s.setPoint i v).activeSet = s.activeSet := rfl
@[simp] theorem State.setPoint_pendingSet (s : State) (i : Nat) (v : PointRecord) : (s.setPoint i v).pendingSet = s.pendingSet := rfl
@[simp] theorem State.setPoint_waiting (s : State) (i : Nat) (v : PointRecord) : (s.setPoint i v).waiting = s.waiting := rfl
@[simp] theorem State.setPoint_siteRecord (s : State) (i : Nat) (v : PointRecord) : (s.setPoint i v).siteRecord = s.siteRecord := rfl
@[simp] theorem State.setPoint_phase (s : State) (i : Nat) (v : PointRecord) : (s.setPoint i v).phase = s.phase := rfl
@[simp] theorem State.setPoint_commands (s : State) (i : Nat) (v : PointRecord) : (s.setPoint i v).commands = s.commands := rfl
@[simp] theorem State.setPoint_replies (s : State) (i : Nat) (v : PointRecord) : (s.setPoint i v).replies = s.replies := rfl
@[simp] theorem State.setPoint_refusal (s : State) (i : Nat) (v : PointRecord) : (s.setPoint i v).refusal = s.refusal := rfl
@[simp] theorem State.setPoint_notices (s : State) (i : Nat) (v : PointRecord) : (s.setPoint i v).notices = s.notices := rfl
@[simp] theorem State.setPoint_noticesDropped (s : State) (i : Nat) (v : PointRecord) : (s.setPoint i v).noticesDropped = s.noticesDropped := rfl
@[simp] theorem State.setPoint_droppedCount (s : State) (i : Nat) (v : PointRecord) : (s.setPoint i v).droppedCount = s.droppedCount := rfl
@[simp] theorem State.setPoint_snapshotCount (s : State) (i : Nat) (v : PointRecord) : (s.setPoint i v).snapshotCount = s.snapshotCount := rfl
@[simp] theorem State.setPoint_snapshot (s : State) (i : Nat) (v : PointRecord) : (s.setPoint i v).snapshot = s.snapshot := rfl
@[simp] theorem State.setPoint_evaluation (s : State) (i : Nat) (v : PointRecord) : (s.setPoint i v).evaluation = s.evaluation := rfl
@[simp] theorem State.setPoint_lastEvaluation (s : State) (i : Nat) (v : PointRecord) : (s.setPoint i v).lastEvaluation = s.lastEvaluation := rfl
@[simp] theorem State.setPoint_draws (s : State) (i : Nat) (v : PointRecord) : (s.setPoint i v).draws = s.draws := rfl
@[simp] theorem State.setPoint_pending (s : State) (i : Nat) (v : PointRecord) : (s.setPoint i v).pending = s.pending := rfl

@[simp] theorem State.setPoint_pointRecords (s : State) (i : Nat) (v : PointRecord) :
    (s.setPoint i v).pointRecords = s.pointRecords.set i (some v) := rfl

@[simp] theorem State.handOver_inReset (s : State) (l a : Nat) : (s.handOver l a).inReset = s.inReset := rfl
@[simp] theorem State.handOver_inhibitLow (s : State) (l a : Nat) : (s.handOver l a).inhibitLow = s.inhibitLow := rfl
@[simp] theorem State.handOver_arcLow (s : State) (l a : Nat) : (s.handOver l a).arcLow = s.arcLow := rfl
@[simp] theorem State.handOver_probePolHigh (s : State) (l a : Nat) : (s.handOver l a).probePolHigh = s.probePolHigh := rfl
@[simp] theorem State.handOver_link (s : State) (l a : Nat) : (s.handOver l a).link = s.link := rfl
@[simp] theorem State.handOver_goodFrames (s : State) (l a : Nat) : (s.handOver l a).goodFrames = s.goodFrames := rfl
@[simp] theorem State.handOver_badFrames (s : State) (l a : Nat) : (s.handOver l a).badFrames = s.badFrames := rfl
@[simp] theorem State.handOver_holdingSlots (s : State) (l a : Nat) : (s.handOver l a).holdingSlots = s.holdingSlots := rfl
@[simp] theorem State.handOver_forceArcLine (s : State) (l a : Nat) : (s.handOver l a).forceArcLine = s.forceArcLine := rfl
@[simp] theorem State.handOver_forceInhibit (s : State) (l a : Nat) : (s.handOver l a).forceInhibit = s.forceInhibit := rfl
@[simp] theorem State.handOver_resolvingSweep (s : State) (l a : Nat) : (s.handOver l a).resolvingSweep = s.resolvingSweep := rfl
@[simp] theorem State.handOver_arcMasked (s : State) (l a : Nat) : (s.handOver l a).arcMasked = s.arcMasked := rfl
@[simp] theorem State.handOver_reportHold (s : State) (l a : Nat) : (s.handOver l a).reportHold = s.reportHold := rfl
@[simp] theorem State.handOver_linkStatistics (s : State) (l a : Nat) : (s.handOver l a).linkStatistics = s.linkStatistics := rfl
@[simp] theorem State.handOver_lanePorts (s : State) (l a : Nat) : (s.handOver l a).lanePorts = s.lanePorts := rfl
@[simp] theorem State.handOver_returnPort (s : State) (l a : Nat) : (s.handOver l a).returnPort = s.returnPort := rfl
@[simp] theorem State.handOver_loopOutput (s : State) (l a : Nat) : (s.handOver l a).loopOutput = s.loopOutput := rfl
@[simp] theorem State.handOver_inFlight (s : State) (l a : Nat) : (s.handOver l a).inFlight = s.inFlight := rfl
@[simp] theorem State.handOver_sweepNumber (s : State) (l a : Nat) : (s.handOver l a).sweepNumber = s.sweepNumber := rfl
@[simp] theorem State.handOver_intervalPeriod (s : State) (l a : Nat) : (s.handOver l a).intervalPeriod = s.intervalPeriod := rfl
@[simp] theorem State.handOver_reportedModes (s : State) (l a : Nat) : (s.handOver l a).reportedModes = s.reportedModes := rfl
@[simp] theorem State.handOver_consecutiveFailures (s : State) (l a : Nat) : (s.handOver l a).consecutiveFailures = s.consecutiveFailures := rfl
@[simp] theorem State.handOver_staleCounts (s : State) (l a : Nat) : (s.handOver l a).staleCounts = s.staleCounts := rfl
@[simp] theorem State.handOver_senseBlind (s : State) (l a : Nat) : (s.handOver l a).senseBlind = s.senseBlind := rfl
@[simp] theorem State.handOver_headLost (s : State) (l a : Nat) : (s.handOver l a).headLost = s.headLost := rfl
@[simp] theorem State.handOver_blindMute (s : State) (l a : Nat) : (s.handOver l a).blindMute = s.blindMute := rfl
@[simp] theorem State.handOver_sweepStatistics (s : State) (l a : Nat) : (s.handOver l a).sweepStatistics = s.sweepStatistics := rfl
@[simp] theorem State.handOver_pointRecords (s : State) (l a : Nat) : (s.handOver l a).pointRecords = s.pointRecords := rfl
@[simp] theorem State.handOver_rowRuntimes (s : State) (l a : Nat) : (s.handOver l a).rowRuntimes = s.rowRuntimes := rfl
@[simp] theorem State.handOver_zones (s : State) (l a : Nat) : (s.handOver l a).zones = s.zones := rfl
@[simp] theorem State.handOver_lanes (s : State) (l a : Nat) : (s.handOver l a).lanes = s.lanes := rfl
@[simp] theorem State.handOver_budget (s : State) (l a : Nat) : (s.handOver l a).budget = s.budget := rfl
@[simp] theorem State.handOver_activeSet (s : State) (l a : Nat) : (s.handOver l a).activeSet = s.activeSet := rfl
@[simp] theorem State.handOver_pendingSet (s : State) (l a : Nat) : (s.handOver l a).pendingSet = s.pendingSet := rfl
@[simp] theorem State.handOver_waiting (s : State) (l a : Nat) : (s.handOver l a).waiting = s.waiting := rfl
@[simp] theorem State.handOver_siteRecord (s : State) (l a : Nat) : (s.handOver l a).siteRecord = s.siteRecord := rfl
@[simp] theorem State.handOver_phase (s : State) (l a : Nat) : (s.handOver l a).phase = s.phase := rfl
@[simp] theorem State.handOver_commands (s : State) (l a : Nat) : (s.handOver l a).commands = s.commands := rfl
@[simp] theorem State.handOver_replies (s : State) (l a : Nat) : (s.handOver l a).replies = s.replies := rfl
@[simp] theorem State.handOver_refusal (s : State) (l a : Nat) : (s.handOver l a).refusal = s.refusal := rfl
@[simp] theorem State.handOver_notices (s : State) (l a : Nat) : (s.handOver l a).notices = s.notices := rfl
@[simp] theorem State.handOver_noticesDropped (s : State) (l a : Nat) : (s.handOver l a).noticesDropped = s.noticesDropped := rfl
@[simp] theorem State.handOver_droppedCount (s : State) (l a : Nat) : (s.handOver l a).droppedCount = s.droppedCount := rfl
@[simp] theorem State.handOver_snapshotCount (s : State) (l a : Nat) : (s.handOver l a).snapshotCount = s.snapshotCount := rfl
@[simp] theorem State.handOver_snapshot (s : State) (l a : Nat) : (s.handOver l a).snapshot = s.snapshot := rfl
@[simp] theorem State.handOver_evaluation (s : State) (l a : Nat) : (s.handOver l a).evaluation = s.evaluation := rfl
@[simp] theorem State.handOver_lastEvaluation (s : State) (l a : Nat) : (s.handOver l a).lastEvaluation = s.lastEvaluation := rfl
@[simp] theorem State.handOver_draws (s : State) (l a : Nat) : (s.handOver l a).draws = s.draws := rfl
@[simp] theorem State.handOver_pending (s : State) (l a : Nat) : (s.handOver l a).pending = s.pending := rfl

@[simp] theorem State.handOver_multipliers (s : State) (l a : Nat) :
    (s.handOver l a).multipliers = s.multipliers.set l (multiplierOf a) := rfl

@[simp] theorem State.setLaneScaled_inReset (s : State) (l : Nat) (v : Lane) : (s.setLaneScaled l v).inReset = s.inReset := rfl
@[simp] theorem State.setLaneScaled_inhibitLow (s : State) (l : Nat) (v : Lane) : (s.setLaneScaled l v).inhibitLow = s.inhibitLow := rfl
@[simp] theorem State.setLaneScaled_arcLow (s : State) (l : Nat) (v : Lane) : (s.setLaneScaled l v).arcLow = s.arcLow := rfl
@[simp] theorem State.setLaneScaled_probePolHigh (s : State) (l : Nat) (v : Lane) : (s.setLaneScaled l v).probePolHigh = s.probePolHigh := rfl
@[simp] theorem State.setLaneScaled_link (s : State) (l : Nat) (v : Lane) : (s.setLaneScaled l v).link = s.link := rfl
@[simp] theorem State.setLaneScaled_goodFrames (s : State) (l : Nat) (v : Lane) : (s.setLaneScaled l v).goodFrames = s.goodFrames := rfl
@[simp] theorem State.setLaneScaled_badFrames (s : State) (l : Nat) (v : Lane) : (s.setLaneScaled l v).badFrames = s.badFrames := rfl
@[simp] theorem State.setLaneScaled_holdingSlots (s : State) (l : Nat) (v : Lane) : (s.setLaneScaled l v).holdingSlots = s.holdingSlots := rfl
@[simp] theorem State.setLaneScaled_forceArcLine (s : State) (l : Nat) (v : Lane) : (s.setLaneScaled l v).forceArcLine = s.forceArcLine := rfl
@[simp] theorem State.setLaneScaled_forceInhibit (s : State) (l : Nat) (v : Lane) : (s.setLaneScaled l v).forceInhibit = s.forceInhibit := rfl
@[simp] theorem State.setLaneScaled_resolvingSweep (s : State) (l : Nat) (v : Lane) : (s.setLaneScaled l v).resolvingSweep = s.resolvingSweep := rfl
@[simp] theorem State.setLaneScaled_arcMasked (s : State) (l : Nat) (v : Lane) : (s.setLaneScaled l v).arcMasked = s.arcMasked := rfl
@[simp] theorem State.setLaneScaled_reportHold (s : State) (l : Nat) (v : Lane) : (s.setLaneScaled l v).reportHold = s.reportHold := rfl
@[simp] theorem State.setLaneScaled_linkStatistics (s : State) (l : Nat) (v : Lane) : (s.setLaneScaled l v).linkStatistics = s.linkStatistics := rfl
@[simp] theorem State.setLaneScaled_lanePorts (s : State) (l : Nat) (v : Lane) : (s.setLaneScaled l v).lanePorts = s.lanePorts := rfl
@[simp] theorem State.setLaneScaled_returnPort (s : State) (l : Nat) (v : Lane) : (s.setLaneScaled l v).returnPort = s.returnPort := rfl
@[simp] theorem State.setLaneScaled_loopOutput (s : State) (l : Nat) (v : Lane) : (s.setLaneScaled l v).loopOutput = s.loopOutput := rfl
@[simp] theorem State.setLaneScaled_inFlight (s : State) (l : Nat) (v : Lane) : (s.setLaneScaled l v).inFlight = s.inFlight := rfl
@[simp] theorem State.setLaneScaled_sweepNumber (s : State) (l : Nat) (v : Lane) : (s.setLaneScaled l v).sweepNumber = s.sweepNumber := rfl
@[simp] theorem State.setLaneScaled_intervalPeriod (s : State) (l : Nat) (v : Lane) : (s.setLaneScaled l v).intervalPeriod = s.intervalPeriod := rfl
@[simp] theorem State.setLaneScaled_reportedModes (s : State) (l : Nat) (v : Lane) : (s.setLaneScaled l v).reportedModes = s.reportedModes := rfl
@[simp] theorem State.setLaneScaled_consecutiveFailures (s : State) (l : Nat) (v : Lane) : (s.setLaneScaled l v).consecutiveFailures = s.consecutiveFailures := rfl
@[simp] theorem State.setLaneScaled_staleCounts (s : State) (l : Nat) (v : Lane) : (s.setLaneScaled l v).staleCounts = s.staleCounts := rfl
@[simp] theorem State.setLaneScaled_senseBlind (s : State) (l : Nat) (v : Lane) : (s.setLaneScaled l v).senseBlind = s.senseBlind := rfl
@[simp] theorem State.setLaneScaled_headLost (s : State) (l : Nat) (v : Lane) : (s.setLaneScaled l v).headLost = s.headLost := rfl
@[simp] theorem State.setLaneScaled_blindMute (s : State) (l : Nat) (v : Lane) : (s.setLaneScaled l v).blindMute = s.blindMute := rfl
@[simp] theorem State.setLaneScaled_sweepStatistics (s : State) (l : Nat) (v : Lane) : (s.setLaneScaled l v).sweepStatistics = s.sweepStatistics := rfl
@[simp] theorem State.setLaneScaled_pointRecords (s : State) (l : Nat) (v : Lane) : (s.setLaneScaled l v).pointRecords = s.pointRecords := rfl
@[simp] theorem State.setLaneScaled_rowRuntimes (s : State) (l : Nat) (v : Lane) : (s.setLaneScaled l v).rowRuntimes = s.rowRuntimes := rfl
@[simp] theorem State.setLaneScaled_zones (s : State) (l : Nat) (v : Lane) : (s.setLaneScaled l v).zones = s.zones := rfl
@[simp] theorem State.setLaneScaled_budget (s : State) (l : Nat) (v : Lane) : (s.setLaneScaled l v).budget = s.budget := rfl
@[simp] theorem State.setLaneScaled_activeSet (s : State) (l : Nat) (v : Lane) : (s.setLaneScaled l v).activeSet = s.activeSet := rfl
@[simp] theorem State.setLaneScaled_pendingSet (s : State) (l : Nat) (v : Lane) : (s.setLaneScaled l v).pendingSet = s.pendingSet := rfl
@[simp] theorem State.setLaneScaled_waiting (s : State) (l : Nat) (v : Lane) : (s.setLaneScaled l v).waiting = s.waiting := rfl
@[simp] theorem State.setLaneScaled_siteRecord (s : State) (l : Nat) (v : Lane) : (s.setLaneScaled l v).siteRecord = s.siteRecord := rfl
@[simp] theorem State.setLaneScaled_phase (s : State) (l : Nat) (v : Lane) : (s.setLaneScaled l v).phase = s.phase := rfl
@[simp] theorem State.setLaneScaled_commands (s : State) (l : Nat) (v : Lane) : (s.setLaneScaled l v).commands = s.commands := rfl
@[simp] theorem State.setLaneScaled_replies (s : State) (l : Nat) (v : Lane) : (s.setLaneScaled l v).replies = s.replies := rfl
@[simp] theorem State.setLaneScaled_refusal (s : State) (l : Nat) (v : Lane) : (s.setLaneScaled l v).refusal = s.refusal := rfl
@[simp] theorem State.setLaneScaled_notices (s : State) (l : Nat) (v : Lane) : (s.setLaneScaled l v).notices = s.notices := rfl
@[simp] theorem State.setLaneScaled_noticesDropped (s : State) (l : Nat) (v : Lane) : (s.setLaneScaled l v).noticesDropped = s.noticesDropped := rfl
@[simp] theorem State.setLaneScaled_droppedCount (s : State) (l : Nat) (v : Lane) : (s.setLaneScaled l v).droppedCount = s.droppedCount := rfl
@[simp] theorem State.setLaneScaled_snapshotCount (s : State) (l : Nat) (v : Lane) : (s.setLaneScaled l v).snapshotCount = s.snapshotCount := rfl
@[simp] theorem State.setLaneScaled_snapshot (s : State) (l : Nat) (v : Lane) : (s.setLaneScaled l v).snapshot = s.snapshot := rfl
@[simp] theorem State.setLaneScaled_evaluation (s : State) (l : Nat) (v : Lane) : (s.setLaneScaled l v).evaluation = s.evaluation := rfl
@[simp] theorem State.setLaneScaled_lastEvaluation (s : State) (l : Nat) (v : Lane) : (s.setLaneScaled l v).lastEvaluation = s.lastEvaluation := rfl
@[simp] theorem State.setLaneScaled_draws (s : State) (l : Nat) (v : Lane) : (s.setLaneScaled l v).draws = s.draws := rfl
@[simp] theorem State.setLaneScaled_pending (s : State) (l : Nat) (v : Lane) : (s.setLaneScaled l v).pending = s.pending := rfl

@[simp] theorem State.setLaneScaled_lanes (s : State) (l : Nat) (v : Lane) :
    (s.setLaneScaled l v).lanes = s.lanes.set l v := rfl

@[simp] theorem State.setLaneScaled_multipliers (s : State) (l : Nat) (v : Lane) :
    (s.setLaneScaled l v).multipliers = s.multipliers.set l (multiplierOf v.applied) := rfl

/-! ### Notices -/

/-- Queueing a notice touches the notice queue, the dropped flag and the dropped count alone. -/
theorem State.queueNotice_eq (s : State) (n : Notice) : ∃ q d c,
    s.queueNotice n = { s with notices := q, noticesDropped := d, droppedCount := c } := by
  unfold State.queueNotice
  split
  · exact ⟨_, _, _, rfl⟩
  · split <;> exact ⟨_, _, _, rfl⟩

@[simp] theorem State.queueNotice_inReset (s : State) (n : Notice) : (s.queueNotice n).inReset = s.inReset := by
  obtain ⟨_, _, _, h⟩ := s.queueNotice_eq n; rw [h]
@[simp] theorem State.queueNotice_inhibitLow (s : State) (n : Notice) : (s.queueNotice n).inhibitLow = s.inhibitLow := by
  obtain ⟨_, _, _, h⟩ := s.queueNotice_eq n; rw [h]
@[simp] theorem State.queueNotice_arcLow (s : State) (n : Notice) : (s.queueNotice n).arcLow = s.arcLow := by
  obtain ⟨_, _, _, h⟩ := s.queueNotice_eq n; rw [h]
@[simp] theorem State.queueNotice_probePolHigh (s : State) (n : Notice) : (s.queueNotice n).probePolHigh = s.probePolHigh := by
  obtain ⟨_, _, _, h⟩ := s.queueNotice_eq n; rw [h]
@[simp] theorem State.queueNotice_link (s : State) (n : Notice) : (s.queueNotice n).link = s.link := by
  obtain ⟨_, _, _, h⟩ := s.queueNotice_eq n; rw [h]
@[simp] theorem State.queueNotice_goodFrames (s : State) (n : Notice) : (s.queueNotice n).goodFrames = s.goodFrames := by
  obtain ⟨_, _, _, h⟩ := s.queueNotice_eq n; rw [h]
@[simp] theorem State.queueNotice_badFrames (s : State) (n : Notice) : (s.queueNotice n).badFrames = s.badFrames := by
  obtain ⟨_, _, _, h⟩ := s.queueNotice_eq n; rw [h]
@[simp] theorem State.queueNotice_multipliers (s : State) (n : Notice) : (s.queueNotice n).multipliers = s.multipliers := by
  obtain ⟨_, _, _, h⟩ := s.queueNotice_eq n; rw [h]
@[simp] theorem State.queueNotice_holdingSlots (s : State) (n : Notice) : (s.queueNotice n).holdingSlots = s.holdingSlots := by
  obtain ⟨_, _, _, h⟩ := s.queueNotice_eq n; rw [h]
@[simp] theorem State.queueNotice_forceArcLine (s : State) (n : Notice) : (s.queueNotice n).forceArcLine = s.forceArcLine := by
  obtain ⟨_, _, _, h⟩ := s.queueNotice_eq n; rw [h]
@[simp] theorem State.queueNotice_forceInhibit (s : State) (n : Notice) : (s.queueNotice n).forceInhibit = s.forceInhibit := by
  obtain ⟨_, _, _, h⟩ := s.queueNotice_eq n; rw [h]
@[simp] theorem State.queueNotice_resolvingSweep (s : State) (n : Notice) : (s.queueNotice n).resolvingSweep = s.resolvingSweep := by
  obtain ⟨_, _, _, h⟩ := s.queueNotice_eq n; rw [h]
@[simp] theorem State.queueNotice_arcMasked (s : State) (n : Notice) : (s.queueNotice n).arcMasked = s.arcMasked := by
  obtain ⟨_, _, _, h⟩ := s.queueNotice_eq n; rw [h]
@[simp] theorem State.queueNotice_reportHold (s : State) (n : Notice) : (s.queueNotice n).reportHold = s.reportHold := by
  obtain ⟨_, _, _, h⟩ := s.queueNotice_eq n; rw [h]
@[simp] theorem State.queueNotice_linkStatistics (s : State) (n : Notice) : (s.queueNotice n).linkStatistics = s.linkStatistics := by
  obtain ⟨_, _, _, h⟩ := s.queueNotice_eq n; rw [h]
@[simp] theorem State.queueNotice_lanePorts (s : State) (n : Notice) : (s.queueNotice n).lanePorts = s.lanePorts := by
  obtain ⟨_, _, _, h⟩ := s.queueNotice_eq n; rw [h]
@[simp] theorem State.queueNotice_returnPort (s : State) (n : Notice) : (s.queueNotice n).returnPort = s.returnPort := by
  obtain ⟨_, _, _, h⟩ := s.queueNotice_eq n; rw [h]
@[simp] theorem State.queueNotice_loopOutput (s : State) (n : Notice) : (s.queueNotice n).loopOutput = s.loopOutput := by
  obtain ⟨_, _, _, h⟩ := s.queueNotice_eq n; rw [h]
@[simp] theorem State.queueNotice_inFlight (s : State) (n : Notice) : (s.queueNotice n).inFlight = s.inFlight := by
  obtain ⟨_, _, _, h⟩ := s.queueNotice_eq n; rw [h]
@[simp] theorem State.queueNotice_sweepNumber (s : State) (n : Notice) : (s.queueNotice n).sweepNumber = s.sweepNumber := by
  obtain ⟨_, _, _, h⟩ := s.queueNotice_eq n; rw [h]
@[simp] theorem State.queueNotice_intervalPeriod (s : State) (n : Notice) : (s.queueNotice n).intervalPeriod = s.intervalPeriod := by
  obtain ⟨_, _, _, h⟩ := s.queueNotice_eq n; rw [h]
@[simp] theorem State.queueNotice_reportedModes (s : State) (n : Notice) : (s.queueNotice n).reportedModes = s.reportedModes := by
  obtain ⟨_, _, _, h⟩ := s.queueNotice_eq n; rw [h]
@[simp] theorem State.queueNotice_consecutiveFailures (s : State) (n : Notice) : (s.queueNotice n).consecutiveFailures = s.consecutiveFailures := by
  obtain ⟨_, _, _, h⟩ := s.queueNotice_eq n; rw [h]
@[simp] theorem State.queueNotice_staleCounts (s : State) (n : Notice) : (s.queueNotice n).staleCounts = s.staleCounts := by
  obtain ⟨_, _, _, h⟩ := s.queueNotice_eq n; rw [h]
@[simp] theorem State.queueNotice_senseBlind (s : State) (n : Notice) : (s.queueNotice n).senseBlind = s.senseBlind := by
  obtain ⟨_, _, _, h⟩ := s.queueNotice_eq n; rw [h]
@[simp] theorem State.queueNotice_headLost (s : State) (n : Notice) : (s.queueNotice n).headLost = s.headLost := by
  obtain ⟨_, _, _, h⟩ := s.queueNotice_eq n; rw [h]
@[simp] theorem State.queueNotice_blindMute (s : State) (n : Notice) : (s.queueNotice n).blindMute = s.blindMute := by
  obtain ⟨_, _, _, h⟩ := s.queueNotice_eq n; rw [h]
@[simp] theorem State.queueNotice_sweepStatistics (s : State) (n : Notice) : (s.queueNotice n).sweepStatistics = s.sweepStatistics := by
  obtain ⟨_, _, _, h⟩ := s.queueNotice_eq n; rw [h]
@[simp] theorem State.queueNotice_pointRecords (s : State) (n : Notice) : (s.queueNotice n).pointRecords = s.pointRecords := by
  obtain ⟨_, _, _, h⟩ := s.queueNotice_eq n; rw [h]
@[simp] theorem State.queueNotice_rowRuntimes (s : State) (n : Notice) : (s.queueNotice n).rowRuntimes = s.rowRuntimes := by
  obtain ⟨_, _, _, h⟩ := s.queueNotice_eq n; rw [h]
@[simp] theorem State.queueNotice_zones (s : State) (n : Notice) : (s.queueNotice n).zones = s.zones := by
  obtain ⟨_, _, _, h⟩ := s.queueNotice_eq n; rw [h]
@[simp] theorem State.queueNotice_lanes (s : State) (n : Notice) : (s.queueNotice n).lanes = s.lanes := by
  obtain ⟨_, _, _, h⟩ := s.queueNotice_eq n; rw [h]
@[simp] theorem State.queueNotice_budget (s : State) (n : Notice) : (s.queueNotice n).budget = s.budget := by
  obtain ⟨_, _, _, h⟩ := s.queueNotice_eq n; rw [h]
@[simp] theorem State.queueNotice_activeSet (s : State) (n : Notice) : (s.queueNotice n).activeSet = s.activeSet := by
  obtain ⟨_, _, _, h⟩ := s.queueNotice_eq n; rw [h]
@[simp] theorem State.queueNotice_pendingSet (s : State) (n : Notice) : (s.queueNotice n).pendingSet = s.pendingSet := by
  obtain ⟨_, _, _, h⟩ := s.queueNotice_eq n; rw [h]
@[simp] theorem State.queueNotice_waiting (s : State) (n : Notice) : (s.queueNotice n).waiting = s.waiting := by
  obtain ⟨_, _, _, h⟩ := s.queueNotice_eq n; rw [h]
@[simp] theorem State.queueNotice_siteRecord (s : State) (n : Notice) : (s.queueNotice n).siteRecord = s.siteRecord := by
  obtain ⟨_, _, _, h⟩ := s.queueNotice_eq n; rw [h]
@[simp] theorem State.queueNotice_phase (s : State) (n : Notice) : (s.queueNotice n).phase = s.phase := by
  obtain ⟨_, _, _, h⟩ := s.queueNotice_eq n; rw [h]
@[simp] theorem State.queueNotice_commands (s : State) (n : Notice) : (s.queueNotice n).commands = s.commands := by
  obtain ⟨_, _, _, h⟩ := s.queueNotice_eq n; rw [h]
@[simp] theorem State.queueNotice_replies (s : State) (n : Notice) : (s.queueNotice n).replies = s.replies := by
  obtain ⟨_, _, _, h⟩ := s.queueNotice_eq n; rw [h]
@[simp] theorem State.queueNotice_refusal (s : State) (n : Notice) : (s.queueNotice n).refusal = s.refusal := by
  obtain ⟨_, _, _, h⟩ := s.queueNotice_eq n; rw [h]
@[simp] theorem State.queueNotice_snapshotCount (s : State) (n : Notice) : (s.queueNotice n).snapshotCount = s.snapshotCount := by
  obtain ⟨_, _, _, h⟩ := s.queueNotice_eq n; rw [h]
@[simp] theorem State.queueNotice_snapshot (s : State) (n : Notice) : (s.queueNotice n).snapshot = s.snapshot := by
  obtain ⟨_, _, _, h⟩ := s.queueNotice_eq n; rw [h]
@[simp] theorem State.queueNotice_evaluation (s : State) (n : Notice) : (s.queueNotice n).evaluation = s.evaluation := by
  obtain ⟨_, _, _, h⟩ := s.queueNotice_eq n; rw [h]
@[simp] theorem State.queueNotice_lastEvaluation (s : State) (n : Notice) : (s.queueNotice n).lastEvaluation = s.lastEvaluation := by
  obtain ⟨_, _, _, h⟩ := s.queueNotice_eq n; rw [h]
@[simp] theorem State.queueNotice_draws (s : State) (n : Notice) : (s.queueNotice n).draws = s.draws := by
  obtain ⟨_, _, _, h⟩ := s.queueNotice_eq n; rw [h]
@[simp] theorem State.queueNotice_pending (s : State) (n : Notice) : (s.queueNotice n).pending = s.pending := by
  obtain ⟨_, _, _, h⟩ := s.queueNotice_eq n; rw [h]

@[simp] theorem State.queueNotice?_inReset (s : State) (n : Option Notice) : (s.queueNotice? n).inReset = s.inReset := by
  cases n <;> simp [State.queueNotice?]
@[simp] theorem State.queueNotice?_inhibitLow (s : State) (n : Option Notice) : (s.queueNotice? n).inhibitLow = s.inhibitLow := by
  cases n <;> simp [State.queueNotice?]
@[simp] theorem State.queueNotice?_arcLow (s : State) (n : Option Notice) : (s.queueNotice? n).arcLow = s.arcLow := by
  cases n <;> simp [State.queueNotice?]
@[simp] theorem State.queueNotice?_probePolHigh (s : State) (n : Option Notice) : (s.queueNotice? n).probePolHigh = s.probePolHigh := by
  cases n <;> simp [State.queueNotice?]
@[simp] theorem State.queueNotice?_link (s : State) (n : Option Notice) : (s.queueNotice? n).link = s.link := by
  cases n <;> simp [State.queueNotice?]
@[simp] theorem State.queueNotice?_goodFrames (s : State) (n : Option Notice) : (s.queueNotice? n).goodFrames = s.goodFrames := by
  cases n <;> simp [State.queueNotice?]
@[simp] theorem State.queueNotice?_badFrames (s : State) (n : Option Notice) : (s.queueNotice? n).badFrames = s.badFrames := by
  cases n <;> simp [State.queueNotice?]
@[simp] theorem State.queueNotice?_multipliers (s : State) (n : Option Notice) : (s.queueNotice? n).multipliers = s.multipliers := by
  cases n <;> simp [State.queueNotice?]
@[simp] theorem State.queueNotice?_holdingSlots (s : State) (n : Option Notice) : (s.queueNotice? n).holdingSlots = s.holdingSlots := by
  cases n <;> simp [State.queueNotice?]
@[simp] theorem State.queueNotice?_forceArcLine (s : State) (n : Option Notice) : (s.queueNotice? n).forceArcLine = s.forceArcLine := by
  cases n <;> simp [State.queueNotice?]
@[simp] theorem State.queueNotice?_forceInhibit (s : State) (n : Option Notice) : (s.queueNotice? n).forceInhibit = s.forceInhibit := by
  cases n <;> simp [State.queueNotice?]
@[simp] theorem State.queueNotice?_resolvingSweep (s : State) (n : Option Notice) : (s.queueNotice? n).resolvingSweep = s.resolvingSweep := by
  cases n <;> simp [State.queueNotice?]
@[simp] theorem State.queueNotice?_arcMasked (s : State) (n : Option Notice) : (s.queueNotice? n).arcMasked = s.arcMasked := by
  cases n <;> simp [State.queueNotice?]
@[simp] theorem State.queueNotice?_reportHold (s : State) (n : Option Notice) : (s.queueNotice? n).reportHold = s.reportHold := by
  cases n <;> simp [State.queueNotice?]
@[simp] theorem State.queueNotice?_linkStatistics (s : State) (n : Option Notice) : (s.queueNotice? n).linkStatistics = s.linkStatistics := by
  cases n <;> simp [State.queueNotice?]
@[simp] theorem State.queueNotice?_lanePorts (s : State) (n : Option Notice) : (s.queueNotice? n).lanePorts = s.lanePorts := by
  cases n <;> simp [State.queueNotice?]
@[simp] theorem State.queueNotice?_returnPort (s : State) (n : Option Notice) : (s.queueNotice? n).returnPort = s.returnPort := by
  cases n <;> simp [State.queueNotice?]
@[simp] theorem State.queueNotice?_loopOutput (s : State) (n : Option Notice) : (s.queueNotice? n).loopOutput = s.loopOutput := by
  cases n <;> simp [State.queueNotice?]
@[simp] theorem State.queueNotice?_inFlight (s : State) (n : Option Notice) : (s.queueNotice? n).inFlight = s.inFlight := by
  cases n <;> simp [State.queueNotice?]
@[simp] theorem State.queueNotice?_sweepNumber (s : State) (n : Option Notice) : (s.queueNotice? n).sweepNumber = s.sweepNumber := by
  cases n <;> simp [State.queueNotice?]
@[simp] theorem State.queueNotice?_intervalPeriod (s : State) (n : Option Notice) : (s.queueNotice? n).intervalPeriod = s.intervalPeriod := by
  cases n <;> simp [State.queueNotice?]
@[simp] theorem State.queueNotice?_reportedModes (s : State) (n : Option Notice) : (s.queueNotice? n).reportedModes = s.reportedModes := by
  cases n <;> simp [State.queueNotice?]
@[simp] theorem State.queueNotice?_consecutiveFailures (s : State) (n : Option Notice) : (s.queueNotice? n).consecutiveFailures = s.consecutiveFailures := by
  cases n <;> simp [State.queueNotice?]
@[simp] theorem State.queueNotice?_staleCounts (s : State) (n : Option Notice) : (s.queueNotice? n).staleCounts = s.staleCounts := by
  cases n <;> simp [State.queueNotice?]
@[simp] theorem State.queueNotice?_senseBlind (s : State) (n : Option Notice) : (s.queueNotice? n).senseBlind = s.senseBlind := by
  cases n <;> simp [State.queueNotice?]
@[simp] theorem State.queueNotice?_headLost (s : State) (n : Option Notice) : (s.queueNotice? n).headLost = s.headLost := by
  cases n <;> simp [State.queueNotice?]
@[simp] theorem State.queueNotice?_blindMute (s : State) (n : Option Notice) : (s.queueNotice? n).blindMute = s.blindMute := by
  cases n <;> simp [State.queueNotice?]
@[simp] theorem State.queueNotice?_sweepStatistics (s : State) (n : Option Notice) : (s.queueNotice? n).sweepStatistics = s.sweepStatistics := by
  cases n <;> simp [State.queueNotice?]
@[simp] theorem State.queueNotice?_pointRecords (s : State) (n : Option Notice) : (s.queueNotice? n).pointRecords = s.pointRecords := by
  cases n <;> simp [State.queueNotice?]
@[simp] theorem State.queueNotice?_rowRuntimes (s : State) (n : Option Notice) : (s.queueNotice? n).rowRuntimes = s.rowRuntimes := by
  cases n <;> simp [State.queueNotice?]
@[simp] theorem State.queueNotice?_zones (s : State) (n : Option Notice) : (s.queueNotice? n).zones = s.zones := by
  cases n <;> simp [State.queueNotice?]
@[simp] theorem State.queueNotice?_lanes (s : State) (n : Option Notice) : (s.queueNotice? n).lanes = s.lanes := by
  cases n <;> simp [State.queueNotice?]
@[simp] theorem State.queueNotice?_budget (s : State) (n : Option Notice) : (s.queueNotice? n).budget = s.budget := by
  cases n <;> simp [State.queueNotice?]
@[simp] theorem State.queueNotice?_activeSet (s : State) (n : Option Notice) : (s.queueNotice? n).activeSet = s.activeSet := by
  cases n <;> simp [State.queueNotice?]
@[simp] theorem State.queueNotice?_pendingSet (s : State) (n : Option Notice) : (s.queueNotice? n).pendingSet = s.pendingSet := by
  cases n <;> simp [State.queueNotice?]
@[simp] theorem State.queueNotice?_waiting (s : State) (n : Option Notice) : (s.queueNotice? n).waiting = s.waiting := by
  cases n <;> simp [State.queueNotice?]
@[simp] theorem State.queueNotice?_siteRecord (s : State) (n : Option Notice) : (s.queueNotice? n).siteRecord = s.siteRecord := by
  cases n <;> simp [State.queueNotice?]
@[simp] theorem State.queueNotice?_phase (s : State) (n : Option Notice) : (s.queueNotice? n).phase = s.phase := by
  cases n <;> simp [State.queueNotice?]
@[simp] theorem State.queueNotice?_commands (s : State) (n : Option Notice) : (s.queueNotice? n).commands = s.commands := by
  cases n <;> simp [State.queueNotice?]
@[simp] theorem State.queueNotice?_replies (s : State) (n : Option Notice) : (s.queueNotice? n).replies = s.replies := by
  cases n <;> simp [State.queueNotice?]
@[simp] theorem State.queueNotice?_refusal (s : State) (n : Option Notice) : (s.queueNotice? n).refusal = s.refusal := by
  cases n <;> simp [State.queueNotice?]
@[simp] theorem State.queueNotice?_snapshotCount (s : State) (n : Option Notice) : (s.queueNotice? n).snapshotCount = s.snapshotCount := by
  cases n <;> simp [State.queueNotice?]
@[simp] theorem State.queueNotice?_snapshot (s : State) (n : Option Notice) : (s.queueNotice? n).snapshot = s.snapshot := by
  cases n <;> simp [State.queueNotice?]
@[simp] theorem State.queueNotice?_evaluation (s : State) (n : Option Notice) : (s.queueNotice? n).evaluation = s.evaluation := by
  cases n <;> simp [State.queueNotice?]
@[simp] theorem State.queueNotice?_lastEvaluation (s : State) (n : Option Notice) : (s.queueNotice? n).lastEvaluation = s.lastEvaluation := by
  cases n <;> simp [State.queueNotice?]
@[simp] theorem State.queueNotice?_draws (s : State) (n : Option Notice) : (s.queueNotice? n).draws = s.draws := by
  cases n <;> simp [State.queueNotice?]
@[simp] theorem State.queueNotice?_pending (s : State) (n : Option Notice) : (s.queueNotice? n).pending = s.pending := by
  cases n <;> simp [State.queueNotice?]

/-! ### Lane changes -/

@[simp] theorem State.changeLane_inReset (s : State) (l : Nat) (v : Lane) : (s.changeLane l v).inReset = s.inReset := by
  simp [State.changeLane]
@[simp] theorem State.changeLane_inhibitLow (s : State) (l : Nat) (v : Lane) : (s.changeLane l v).inhibitLow = s.inhibitLow := by
  simp [State.changeLane]
@[simp] theorem State.changeLane_arcLow (s : State) (l : Nat) (v : Lane) : (s.changeLane l v).arcLow = s.arcLow := by
  simp [State.changeLane]
@[simp] theorem State.changeLane_probePolHigh (s : State) (l : Nat) (v : Lane) : (s.changeLane l v).probePolHigh = s.probePolHigh := by
  simp [State.changeLane]
@[simp] theorem State.changeLane_link (s : State) (l : Nat) (v : Lane) : (s.changeLane l v).link = s.link := by
  simp [State.changeLane]
@[simp] theorem State.changeLane_goodFrames (s : State) (l : Nat) (v : Lane) : (s.changeLane l v).goodFrames = s.goodFrames := by
  simp [State.changeLane]
@[simp] theorem State.changeLane_badFrames (s : State) (l : Nat) (v : Lane) : (s.changeLane l v).badFrames = s.badFrames := by
  simp [State.changeLane]
@[simp] theorem State.changeLane_holdingSlots (s : State) (l : Nat) (v : Lane) : (s.changeLane l v).holdingSlots = s.holdingSlots := by
  simp [State.changeLane]
@[simp] theorem State.changeLane_forceArcLine (s : State) (l : Nat) (v : Lane) : (s.changeLane l v).forceArcLine = s.forceArcLine := by
  simp [State.changeLane]
@[simp] theorem State.changeLane_forceInhibit (s : State) (l : Nat) (v : Lane) : (s.changeLane l v).forceInhibit = s.forceInhibit := by
  simp [State.changeLane]
@[simp] theorem State.changeLane_resolvingSweep (s : State) (l : Nat) (v : Lane) : (s.changeLane l v).resolvingSweep = s.resolvingSweep := by
  simp [State.changeLane]
@[simp] theorem State.changeLane_arcMasked (s : State) (l : Nat) (v : Lane) : (s.changeLane l v).arcMasked = s.arcMasked := by
  simp [State.changeLane]
@[simp] theorem State.changeLane_reportHold (s : State) (l : Nat) (v : Lane) : (s.changeLane l v).reportHold = s.reportHold := by
  simp [State.changeLane]
@[simp] theorem State.changeLane_linkStatistics (s : State) (l : Nat) (v : Lane) : (s.changeLane l v).linkStatistics = s.linkStatistics := by
  simp [State.changeLane]
@[simp] theorem State.changeLane_lanePorts (s : State) (l : Nat) (v : Lane) : (s.changeLane l v).lanePorts = s.lanePorts := by
  simp [State.changeLane]
@[simp] theorem State.changeLane_returnPort (s : State) (l : Nat) (v : Lane) : (s.changeLane l v).returnPort = s.returnPort := by
  simp [State.changeLane]
@[simp] theorem State.changeLane_loopOutput (s : State) (l : Nat) (v : Lane) : (s.changeLane l v).loopOutput = s.loopOutput := by
  simp [State.changeLane]
@[simp] theorem State.changeLane_inFlight (s : State) (l : Nat) (v : Lane) : (s.changeLane l v).inFlight = s.inFlight := by
  simp [State.changeLane]
@[simp] theorem State.changeLane_sweepNumber (s : State) (l : Nat) (v : Lane) : (s.changeLane l v).sweepNumber = s.sweepNumber := by
  simp [State.changeLane]
@[simp] theorem State.changeLane_intervalPeriod (s : State) (l : Nat) (v : Lane) : (s.changeLane l v).intervalPeriod = s.intervalPeriod := by
  simp [State.changeLane]
@[simp] theorem State.changeLane_reportedModes (s : State) (l : Nat) (v : Lane) : (s.changeLane l v).reportedModes = s.reportedModes := by
  simp [State.changeLane]
@[simp] theorem State.changeLane_consecutiveFailures (s : State) (l : Nat) (v : Lane) : (s.changeLane l v).consecutiveFailures = s.consecutiveFailures := by
  simp [State.changeLane]
@[simp] theorem State.changeLane_staleCounts (s : State) (l : Nat) (v : Lane) : (s.changeLane l v).staleCounts = s.staleCounts := by
  simp [State.changeLane]
@[simp] theorem State.changeLane_senseBlind (s : State) (l : Nat) (v : Lane) : (s.changeLane l v).senseBlind = s.senseBlind := by
  simp [State.changeLane]
@[simp] theorem State.changeLane_headLost (s : State) (l : Nat) (v : Lane) : (s.changeLane l v).headLost = s.headLost := by
  simp [State.changeLane]
@[simp] theorem State.changeLane_blindMute (s : State) (l : Nat) (v : Lane) : (s.changeLane l v).blindMute = s.blindMute := by
  simp [State.changeLane]
@[simp] theorem State.changeLane_sweepStatistics (s : State) (l : Nat) (v : Lane) : (s.changeLane l v).sweepStatistics = s.sweepStatistics := by
  simp [State.changeLane]
@[simp] theorem State.changeLane_pointRecords (s : State) (l : Nat) (v : Lane) : (s.changeLane l v).pointRecords = s.pointRecords := by
  simp [State.changeLane]
@[simp] theorem State.changeLane_rowRuntimes (s : State) (l : Nat) (v : Lane) : (s.changeLane l v).rowRuntimes = s.rowRuntimes := by
  simp [State.changeLane]
@[simp] theorem State.changeLane_zones (s : State) (l : Nat) (v : Lane) : (s.changeLane l v).zones = s.zones := by
  simp [State.changeLane]
@[simp] theorem State.changeLane_budget (s : State) (l : Nat) (v : Lane) : (s.changeLane l v).budget = s.budget := by
  simp [State.changeLane]
@[simp] theorem State.changeLane_activeSet (s : State) (l : Nat) (v : Lane) : (s.changeLane l v).activeSet = s.activeSet := by
  simp [State.changeLane]
@[simp] theorem State.changeLane_pendingSet (s : State) (l : Nat) (v : Lane) : (s.changeLane l v).pendingSet = s.pendingSet := by
  simp [State.changeLane]
@[simp] theorem State.changeLane_waiting (s : State) (l : Nat) (v : Lane) : (s.changeLane l v).waiting = s.waiting := by
  simp [State.changeLane]
@[simp] theorem State.changeLane_siteRecord (s : State) (l : Nat) (v : Lane) : (s.changeLane l v).siteRecord = s.siteRecord := by
  simp [State.changeLane]
@[simp] theorem State.changeLane_phase (s : State) (l : Nat) (v : Lane) : (s.changeLane l v).phase = s.phase := by
  simp [State.changeLane]
@[simp] theorem State.changeLane_commands (s : State) (l : Nat) (v : Lane) : (s.changeLane l v).commands = s.commands := by
  simp [State.changeLane]
@[simp] theorem State.changeLane_replies (s : State) (l : Nat) (v : Lane) : (s.changeLane l v).replies = s.replies := by
  simp [State.changeLane]
@[simp] theorem State.changeLane_refusal (s : State) (l : Nat) (v : Lane) : (s.changeLane l v).refusal = s.refusal := by
  simp [State.changeLane]
@[simp] theorem State.changeLane_snapshotCount (s : State) (l : Nat) (v : Lane) : (s.changeLane l v).snapshotCount = s.snapshotCount := by
  simp [State.changeLane]
@[simp] theorem State.changeLane_snapshot (s : State) (l : Nat) (v : Lane) : (s.changeLane l v).snapshot = s.snapshot := by
  simp [State.changeLane]
@[simp] theorem State.changeLane_evaluation (s : State) (l : Nat) (v : Lane) : (s.changeLane l v).evaluation = s.evaluation := by
  simp [State.changeLane]
@[simp] theorem State.changeLane_lastEvaluation (s : State) (l : Nat) (v : Lane) : (s.changeLane l v).lastEvaluation = s.lastEvaluation := by
  simp [State.changeLane]
@[simp] theorem State.changeLane_draws (s : State) (l : Nat) (v : Lane) : (s.changeLane l v).draws = s.draws := by
  simp [State.changeLane]
@[simp] theorem State.changeLane_pending (s : State) (l : Nat) (v : Lane) : (s.changeLane l v).pending = s.pending := by
  simp [State.changeLane]

@[simp] theorem State.noteMuted_inReset (s : State) (l : Nat) : (s.noteMuted l).inReset = s.inReset := rfl
@[simp] theorem State.noteMuted_inhibitLow (s : State) (l : Nat) : (s.noteMuted l).inhibitLow = s.inhibitLow := rfl
@[simp] theorem State.noteMuted_arcLow (s : State) (l : Nat) : (s.noteMuted l).arcLow = s.arcLow := rfl
@[simp] theorem State.noteMuted_probePolHigh (s : State) (l : Nat) : (s.noteMuted l).probePolHigh = s.probePolHigh := rfl
@[simp] theorem State.noteMuted_link (s : State) (l : Nat) : (s.noteMuted l).link = s.link := rfl
@[simp] theorem State.noteMuted_goodFrames (s : State) (l : Nat) : (s.noteMuted l).goodFrames = s.goodFrames := rfl
@[simp] theorem State.noteMuted_badFrames (s : State) (l : Nat) : (s.noteMuted l).badFrames = s.badFrames := rfl
@[simp] theorem State.noteMuted_multipliers (s : State) (l : Nat) : (s.noteMuted l).multipliers = s.multipliers := rfl
@[simp] theorem State.noteMuted_holdingSlots (s : State) (l : Nat) : (s.noteMuted l).holdingSlots = s.holdingSlots := rfl
@[simp] theorem State.noteMuted_forceArcLine (s : State) (l : Nat) : (s.noteMuted l).forceArcLine = s.forceArcLine := rfl
@[simp] theorem State.noteMuted_forceInhibit (s : State) (l : Nat) : (s.noteMuted l).forceInhibit = s.forceInhibit := rfl
@[simp] theorem State.noteMuted_resolvingSweep (s : State) (l : Nat) : (s.noteMuted l).resolvingSweep = s.resolvingSweep := rfl
@[simp] theorem State.noteMuted_arcMasked (s : State) (l : Nat) : (s.noteMuted l).arcMasked = s.arcMasked := rfl
@[simp] theorem State.noteMuted_reportHold (s : State) (l : Nat) : (s.noteMuted l).reportHold = s.reportHold := rfl
@[simp] theorem State.noteMuted_linkStatistics (s : State) (l : Nat) : (s.noteMuted l).linkStatistics = s.linkStatistics := rfl
@[simp] theorem State.noteMuted_lanePorts (s : State) (l : Nat) : (s.noteMuted l).lanePorts = s.lanePorts := rfl
@[simp] theorem State.noteMuted_returnPort (s : State) (l : Nat) : (s.noteMuted l).returnPort = s.returnPort := rfl
@[simp] theorem State.noteMuted_loopOutput (s : State) (l : Nat) : (s.noteMuted l).loopOutput = s.loopOutput := rfl
@[simp] theorem State.noteMuted_inFlight (s : State) (l : Nat) : (s.noteMuted l).inFlight = s.inFlight := rfl
@[simp] theorem State.noteMuted_sweepNumber (s : State) (l : Nat) : (s.noteMuted l).sweepNumber = s.sweepNumber := rfl
@[simp] theorem State.noteMuted_intervalPeriod (s : State) (l : Nat) : (s.noteMuted l).intervalPeriod = s.intervalPeriod := rfl
@[simp] theorem State.noteMuted_reportedModes (s : State) (l : Nat) : (s.noteMuted l).reportedModes = s.reportedModes := rfl
@[simp] theorem State.noteMuted_consecutiveFailures (s : State) (l : Nat) : (s.noteMuted l).consecutiveFailures = s.consecutiveFailures := rfl
@[simp] theorem State.noteMuted_staleCounts (s : State) (l : Nat) : (s.noteMuted l).staleCounts = s.staleCounts := rfl
@[simp] theorem State.noteMuted_senseBlind (s : State) (l : Nat) : (s.noteMuted l).senseBlind = s.senseBlind := rfl
@[simp] theorem State.noteMuted_headLost (s : State) (l : Nat) : (s.noteMuted l).headLost = s.headLost := rfl
@[simp] theorem State.noteMuted_blindMute (s : State) (l : Nat) : (s.noteMuted l).blindMute = s.blindMute := rfl
@[simp] theorem State.noteMuted_sweepStatistics (s : State) (l : Nat) : (s.noteMuted l).sweepStatistics = s.sweepStatistics := rfl
@[simp] theorem State.noteMuted_pointRecords (s : State) (l : Nat) : (s.noteMuted l).pointRecords = s.pointRecords := rfl
@[simp] theorem State.noteMuted_rowRuntimes (s : State) (l : Nat) : (s.noteMuted l).rowRuntimes = s.rowRuntimes := rfl
@[simp] theorem State.noteMuted_zones (s : State) (l : Nat) : (s.noteMuted l).zones = s.zones := rfl
@[simp] theorem State.noteMuted_lanes (s : State) (l : Nat) : (s.noteMuted l).lanes = s.lanes := rfl
@[simp] theorem State.noteMuted_budget (s : State) (l : Nat) : (s.noteMuted l).budget = s.budget := rfl
@[simp] theorem State.noteMuted_activeSet (s : State) (l : Nat) : (s.noteMuted l).activeSet = s.activeSet := rfl
@[simp] theorem State.noteMuted_pendingSet (s : State) (l : Nat) : (s.noteMuted l).pendingSet = s.pendingSet := rfl
@[simp] theorem State.noteMuted_waiting (s : State) (l : Nat) : (s.noteMuted l).waiting = s.waiting := rfl
@[simp] theorem State.noteMuted_siteRecord (s : State) (l : Nat) : (s.noteMuted l).siteRecord = s.siteRecord := rfl
@[simp] theorem State.noteMuted_phase (s : State) (l : Nat) : (s.noteMuted l).phase = s.phase := rfl
@[simp] theorem State.noteMuted_commands (s : State) (l : Nat) : (s.noteMuted l).commands = s.commands := rfl
@[simp] theorem State.noteMuted_replies (s : State) (l : Nat) : (s.noteMuted l).replies = s.replies := rfl
@[simp] theorem State.noteMuted_refusal (s : State) (l : Nat) : (s.noteMuted l).refusal = s.refusal := rfl
@[simp] theorem State.noteMuted_notices (s : State) (l : Nat) : (s.noteMuted l).notices = s.notices := rfl
@[simp] theorem State.noteMuted_noticesDropped (s : State) (l : Nat) : (s.noteMuted l).noticesDropped = s.noticesDropped := rfl
@[simp] theorem State.noteMuted_droppedCount (s : State) (l : Nat) : (s.noteMuted l).droppedCount = s.droppedCount := rfl
@[simp] theorem State.noteMuted_snapshotCount (s : State) (l : Nat) : (s.noteMuted l).snapshotCount = s.snapshotCount := rfl
@[simp] theorem State.noteMuted_snapshot (s : State) (l : Nat) : (s.noteMuted l).snapshot = s.snapshot := rfl
@[simp] theorem State.noteMuted_lastEvaluation (s : State) (l : Nat) : (s.noteMuted l).lastEvaluation = s.lastEvaluation := rfl
@[simp] theorem State.noteMuted_draws (s : State) (l : Nat) : (s.noteMuted l).draws = s.draws := rfl
@[simp] theorem State.noteMuted_pending (s : State) (l : Nat) : (s.noteMuted l).pending = s.pending := rfl
@[simp] theorem State.beginSettled_inReset (s : State) (l : Nat) : (s.beginSettled l).inReset = s.inReset := rfl
@[simp] theorem State.beginSettled_inhibitLow (s : State) (l : Nat) : (s.beginSettled l).inhibitLow = s.inhibitLow := rfl
@[simp] theorem State.beginSettled_arcLow (s : State) (l : Nat) : (s.beginSettled l).arcLow = s.arcLow := rfl
@[simp] theorem State.beginSettled_probePolHigh (s : State) (l : Nat) : (s.beginSettled l).probePolHigh = s.probePolHigh := rfl
@[simp] theorem State.beginSettled_link (s : State) (l : Nat) : (s.beginSettled l).link = s.link := rfl
@[simp] theorem State.beginSettled_goodFrames (s : State) (l : Nat) : (s.beginSettled l).goodFrames = s.goodFrames := rfl
@[simp] theorem State.beginSettled_badFrames (s : State) (l : Nat) : (s.beginSettled l).badFrames = s.badFrames := rfl
@[simp] theorem State.beginSettled_multipliers (s : State) (l : Nat) : (s.beginSettled l).multipliers = s.multipliers := rfl
@[simp] theorem State.beginSettled_holdingSlots (s : State) (l : Nat) : (s.beginSettled l).holdingSlots = s.holdingSlots := rfl
@[simp] theorem State.beginSettled_forceArcLine (s : State) (l : Nat) : (s.beginSettled l).forceArcLine = s.forceArcLine := rfl
@[simp] theorem State.beginSettled_forceInhibit (s : State) (l : Nat) : (s.beginSettled l).forceInhibit = s.forceInhibit := rfl
@[simp] theorem State.beginSettled_resolvingSweep (s : State) (l : Nat) : (s.beginSettled l).resolvingSweep = s.resolvingSweep := rfl
@[simp] theorem State.beginSettled_arcMasked (s : State) (l : Nat) : (s.beginSettled l).arcMasked = s.arcMasked := rfl
@[simp] theorem State.beginSettled_reportHold (s : State) (l : Nat) : (s.beginSettled l).reportHold = s.reportHold := rfl
@[simp] theorem State.beginSettled_linkStatistics (s : State) (l : Nat) : (s.beginSettled l).linkStatistics = s.linkStatistics := rfl
@[simp] theorem State.beginSettled_lanePorts (s : State) (l : Nat) : (s.beginSettled l).lanePorts = s.lanePorts := rfl
@[simp] theorem State.beginSettled_returnPort (s : State) (l : Nat) : (s.beginSettled l).returnPort = s.returnPort := rfl
@[simp] theorem State.beginSettled_loopOutput (s : State) (l : Nat) : (s.beginSettled l).loopOutput = s.loopOutput := rfl
@[simp] theorem State.beginSettled_inFlight (s : State) (l : Nat) : (s.beginSettled l).inFlight = s.inFlight := rfl
@[simp] theorem State.beginSettled_sweepNumber (s : State) (l : Nat) : (s.beginSettled l).sweepNumber = s.sweepNumber := rfl
@[simp] theorem State.beginSettled_intervalPeriod (s : State) (l : Nat) : (s.beginSettled l).intervalPeriod = s.intervalPeriod := rfl
@[simp] theorem State.beginSettled_reportedModes (s : State) (l : Nat) : (s.beginSettled l).reportedModes = s.reportedModes := rfl
@[simp] theorem State.beginSettled_consecutiveFailures (s : State) (l : Nat) : (s.beginSettled l).consecutiveFailures = s.consecutiveFailures := rfl
@[simp] theorem State.beginSettled_staleCounts (s : State) (l : Nat) : (s.beginSettled l).staleCounts = s.staleCounts := rfl
@[simp] theorem State.beginSettled_senseBlind (s : State) (l : Nat) : (s.beginSettled l).senseBlind = s.senseBlind := rfl
@[simp] theorem State.beginSettled_headLost (s : State) (l : Nat) : (s.beginSettled l).headLost = s.headLost := rfl
@[simp] theorem State.beginSettled_blindMute (s : State) (l : Nat) : (s.beginSettled l).blindMute = s.blindMute := rfl
@[simp] theorem State.beginSettled_sweepStatistics (s : State) (l : Nat) : (s.beginSettled l).sweepStatistics = s.sweepStatistics := rfl
@[simp] theorem State.beginSettled_pointRecords (s : State) (l : Nat) : (s.beginSettled l).pointRecords = s.pointRecords := rfl
@[simp] theorem State.beginSettled_rowRuntimes (s : State) (l : Nat) : (s.beginSettled l).rowRuntimes = s.rowRuntimes := rfl
@[simp] theorem State.beginSettled_zones (s : State) (l : Nat) : (s.beginSettled l).zones = s.zones := rfl
@[simp] theorem State.beginSettled_lanes (s : State) (l : Nat) : (s.beginSettled l).lanes = s.lanes := rfl
@[simp] theorem State.beginSettled_budget (s : State) (l : Nat) : (s.beginSettled l).budget = s.budget := rfl
@[simp] theorem State.beginSettled_activeSet (s : State) (l : Nat) : (s.beginSettled l).activeSet = s.activeSet := rfl
@[simp] theorem State.beginSettled_pendingSet (s : State) (l : Nat) : (s.beginSettled l).pendingSet = s.pendingSet := rfl
@[simp] theorem State.beginSettled_waiting (s : State) (l : Nat) : (s.beginSettled l).waiting = s.waiting := rfl
@[simp] theorem State.beginSettled_siteRecord (s : State) (l : Nat) : (s.beginSettled l).siteRecord = s.siteRecord := rfl
@[simp] theorem State.beginSettled_phase (s : State) (l : Nat) : (s.beginSettled l).phase = s.phase := rfl
@[simp] theorem State.beginSettled_commands (s : State) (l : Nat) : (s.beginSettled l).commands = s.commands := rfl
@[simp] theorem State.beginSettled_replies (s : State) (l : Nat) : (s.beginSettled l).replies = s.replies := rfl
@[simp] theorem State.beginSettled_refusal (s : State) (l : Nat) : (s.beginSettled l).refusal = s.refusal := rfl
@[simp] theorem State.beginSettled_notices (s : State) (l : Nat) : (s.beginSettled l).notices = s.notices := rfl
@[simp] theorem State.beginSettled_noticesDropped (s : State) (l : Nat) : (s.beginSettled l).noticesDropped = s.noticesDropped := rfl
@[simp] theorem State.beginSettled_droppedCount (s : State) (l : Nat) : (s.beginSettled l).droppedCount = s.droppedCount := rfl
@[simp] theorem State.beginSettled_snapshotCount (s : State) (l : Nat) : (s.beginSettled l).snapshotCount = s.snapshotCount := rfl
@[simp] theorem State.beginSettled_snapshot (s : State) (l : Nat) : (s.beginSettled l).snapshot = s.snapshot := rfl
@[simp] theorem State.beginSettled_lastEvaluation (s : State) (l : Nat) : (s.beginSettled l).lastEvaluation = s.lastEvaluation := rfl
@[simp] theorem State.beginSettled_draws (s : State) (l : Nat) : (s.beginSettled l).draws = s.draws := rfl
@[simp] theorem State.beginSettled_pending (s : State) (l : Nat) : (s.beginSettled l).pending = s.pending := rfl
@[simp] theorem State.noteMoved_inReset (s : State) (l : Nat) (st : LaneState) : (s.noteMoved l st).inReset = s.inReset := rfl
@[simp] theorem State.noteMoved_inhibitLow (s : State) (l : Nat) (st : LaneState) : (s.noteMoved l st).inhibitLow = s.inhibitLow := rfl
@[simp] theorem State.noteMoved_arcLow (s : State) (l : Nat) (st : LaneState) : (s.noteMoved l st).arcLow = s.arcLow := rfl
@[simp] theorem State.noteMoved_probePolHigh (s : State) (l : Nat) (st : LaneState) : (s.noteMoved l st).probePolHigh = s.probePolHigh := rfl
@[simp] theorem State.noteMoved_link (s : State) (l : Nat) (st : LaneState) : (s.noteMoved l st).link = s.link := rfl
@[simp] theorem State.noteMoved_goodFrames (s : State) (l : Nat) (st : LaneState) : (s.noteMoved l st).goodFrames = s.goodFrames := rfl
@[simp] theorem State.noteMoved_badFrames (s : State) (l : Nat) (st : LaneState) : (s.noteMoved l st).badFrames = s.badFrames := rfl
@[simp] theorem State.noteMoved_multipliers (s : State) (l : Nat) (st : LaneState) : (s.noteMoved l st).multipliers = s.multipliers := rfl
@[simp] theorem State.noteMoved_holdingSlots (s : State) (l : Nat) (st : LaneState) : (s.noteMoved l st).holdingSlots = s.holdingSlots := rfl
@[simp] theorem State.noteMoved_forceArcLine (s : State) (l : Nat) (st : LaneState) : (s.noteMoved l st).forceArcLine = s.forceArcLine := rfl
@[simp] theorem State.noteMoved_forceInhibit (s : State) (l : Nat) (st : LaneState) : (s.noteMoved l st).forceInhibit = s.forceInhibit := rfl
@[simp] theorem State.noteMoved_resolvingSweep (s : State) (l : Nat) (st : LaneState) : (s.noteMoved l st).resolvingSweep = s.resolvingSweep := rfl
@[simp] theorem State.noteMoved_arcMasked (s : State) (l : Nat) (st : LaneState) : (s.noteMoved l st).arcMasked = s.arcMasked := rfl
@[simp] theorem State.noteMoved_reportHold (s : State) (l : Nat) (st : LaneState) : (s.noteMoved l st).reportHold = s.reportHold := rfl
@[simp] theorem State.noteMoved_linkStatistics (s : State) (l : Nat) (st : LaneState) : (s.noteMoved l st).linkStatistics = s.linkStatistics := rfl
@[simp] theorem State.noteMoved_lanePorts (s : State) (l : Nat) (st : LaneState) : (s.noteMoved l st).lanePorts = s.lanePorts := rfl
@[simp] theorem State.noteMoved_returnPort (s : State) (l : Nat) (st : LaneState) : (s.noteMoved l st).returnPort = s.returnPort := rfl
@[simp] theorem State.noteMoved_loopOutput (s : State) (l : Nat) (st : LaneState) : (s.noteMoved l st).loopOutput = s.loopOutput := rfl
@[simp] theorem State.noteMoved_inFlight (s : State) (l : Nat) (st : LaneState) : (s.noteMoved l st).inFlight = s.inFlight := rfl
@[simp] theorem State.noteMoved_sweepNumber (s : State) (l : Nat) (st : LaneState) : (s.noteMoved l st).sweepNumber = s.sweepNumber := rfl
@[simp] theorem State.noteMoved_intervalPeriod (s : State) (l : Nat) (st : LaneState) : (s.noteMoved l st).intervalPeriod = s.intervalPeriod := rfl
@[simp] theorem State.noteMoved_reportedModes (s : State) (l : Nat) (st : LaneState) : (s.noteMoved l st).reportedModes = s.reportedModes := rfl
@[simp] theorem State.noteMoved_consecutiveFailures (s : State) (l : Nat) (st : LaneState) : (s.noteMoved l st).consecutiveFailures = s.consecutiveFailures := rfl
@[simp] theorem State.noteMoved_staleCounts (s : State) (l : Nat) (st : LaneState) : (s.noteMoved l st).staleCounts = s.staleCounts := rfl
@[simp] theorem State.noteMoved_senseBlind (s : State) (l : Nat) (st : LaneState) : (s.noteMoved l st).senseBlind = s.senseBlind := rfl
@[simp] theorem State.noteMoved_headLost (s : State) (l : Nat) (st : LaneState) : (s.noteMoved l st).headLost = s.headLost := rfl
@[simp] theorem State.noteMoved_blindMute (s : State) (l : Nat) (st : LaneState) : (s.noteMoved l st).blindMute = s.blindMute := rfl
@[simp] theorem State.noteMoved_sweepStatistics (s : State) (l : Nat) (st : LaneState) : (s.noteMoved l st).sweepStatistics = s.sweepStatistics := rfl
@[simp] theorem State.noteMoved_pointRecords (s : State) (l : Nat) (st : LaneState) : (s.noteMoved l st).pointRecords = s.pointRecords := rfl
@[simp] theorem State.noteMoved_rowRuntimes (s : State) (l : Nat) (st : LaneState) : (s.noteMoved l st).rowRuntimes = s.rowRuntimes := rfl
@[simp] theorem State.noteMoved_zones (s : State) (l : Nat) (st : LaneState) : (s.noteMoved l st).zones = s.zones := rfl
@[simp] theorem State.noteMoved_lanes (s : State) (l : Nat) (st : LaneState) : (s.noteMoved l st).lanes = s.lanes := rfl
@[simp] theorem State.noteMoved_budget (s : State) (l : Nat) (st : LaneState) : (s.noteMoved l st).budget = s.budget := rfl
@[simp] theorem State.noteMoved_activeSet (s : State) (l : Nat) (st : LaneState) : (s.noteMoved l st).activeSet = s.activeSet := rfl
@[simp] theorem State.noteMoved_pendingSet (s : State) (l : Nat) (st : LaneState) : (s.noteMoved l st).pendingSet = s.pendingSet := rfl
@[simp] theorem State.noteMoved_waiting (s : State) (l : Nat) (st : LaneState) : (s.noteMoved l st).waiting = s.waiting := rfl
@[simp] theorem State.noteMoved_siteRecord (s : State) (l : Nat) (st : LaneState) : (s.noteMoved l st).siteRecord = s.siteRecord := rfl
@[simp] theorem State.noteMoved_phase (s : State) (l : Nat) (st : LaneState) : (s.noteMoved l st).phase = s.phase := rfl
@[simp] theorem State.noteMoved_commands (s : State) (l : Nat) (st : LaneState) : (s.noteMoved l st).commands = s.commands := rfl
@[simp] theorem State.noteMoved_replies (s : State) (l : Nat) (st : LaneState) : (s.noteMoved l st).replies = s.replies := rfl
@[simp] theorem State.noteMoved_refusal (s : State) (l : Nat) (st : LaneState) : (s.noteMoved l st).refusal = s.refusal := rfl
@[simp] theorem State.noteMoved_notices (s : State) (l : Nat) (st : LaneState) : (s.noteMoved l st).notices = s.notices := rfl
@[simp] theorem State.noteMoved_noticesDropped (s : State) (l : Nat) (st : LaneState) : (s.noteMoved l st).noticesDropped = s.noticesDropped := rfl
@[simp] theorem State.noteMoved_droppedCount (s : State) (l : Nat) (st : LaneState) : (s.noteMoved l st).droppedCount = s.droppedCount := rfl
@[simp] theorem State.noteMoved_snapshotCount (s : State) (l : Nat) (st : LaneState) : (s.noteMoved l st).snapshotCount = s.snapshotCount := rfl
@[simp] theorem State.noteMoved_snapshot (s : State) (l : Nat) (st : LaneState) : (s.noteMoved l st).snapshot = s.snapshot := rfl
@[simp] theorem State.noteMoved_lastEvaluation (s : State) (l : Nat) (st : LaneState) : (s.noteMoved l st).lastEvaluation = s.lastEvaluation := rfl
@[simp] theorem State.noteMoved_draws (s : State) (l : Nat) (st : LaneState) : (s.noteMoved l st).draws = s.draws := rfl
@[simp] theorem State.noteMoved_pending (s : State) (l : Nat) (st : LaneState) : (s.noteMoved l st).pending = s.pending := rfl

/-! ### Commands -/

/-- Completing the head moves a command to the reply queue and touches nothing else. -/
theorem State.completeHead_eq (s : State) (r : ReplyResult) (d : ReplyData) : ∃ c q,
    s.completeHead r d = { s with commands := c, replies := q } := by
  unfold State.completeHead
  split <;> exact ⟨_, _, rfl⟩

/-- A refusal fills or extends the refusal record and touches nothing else. -/
theorem State.refuseCommand_eq (s : State) (t : Tag) : ∃ r, s.refuseCommand t = { s with refusal := r } := by
  unfold State.refuseCommand
  split <;> exact ⟨_, rfl⟩

@[simp] theorem State.completeHead_inReset (s : State) (r : ReplyResult) (d : ReplyData) : (s.completeHead r d).inReset = s.inReset := by
  obtain ⟨_, _, h⟩ := s.completeHead_eq r d; rw [h]
@[simp] theorem State.completeHead_inhibitLow (s : State) (r : ReplyResult) (d : ReplyData) : (s.completeHead r d).inhibitLow = s.inhibitLow := by
  obtain ⟨_, _, h⟩ := s.completeHead_eq r d; rw [h]
@[simp] theorem State.completeHead_arcLow (s : State) (r : ReplyResult) (d : ReplyData) : (s.completeHead r d).arcLow = s.arcLow := by
  obtain ⟨_, _, h⟩ := s.completeHead_eq r d; rw [h]
@[simp] theorem State.completeHead_probePolHigh (s : State) (r : ReplyResult) (d : ReplyData) : (s.completeHead r d).probePolHigh = s.probePolHigh := by
  obtain ⟨_, _, h⟩ := s.completeHead_eq r d; rw [h]
@[simp] theorem State.completeHead_link (s : State) (r : ReplyResult) (d : ReplyData) : (s.completeHead r d).link = s.link := by
  obtain ⟨_, _, h⟩ := s.completeHead_eq r d; rw [h]
@[simp] theorem State.completeHead_goodFrames (s : State) (r : ReplyResult) (d : ReplyData) : (s.completeHead r d).goodFrames = s.goodFrames := by
  obtain ⟨_, _, h⟩ := s.completeHead_eq r d; rw [h]
@[simp] theorem State.completeHead_badFrames (s : State) (r : ReplyResult) (d : ReplyData) : (s.completeHead r d).badFrames = s.badFrames := by
  obtain ⟨_, _, h⟩ := s.completeHead_eq r d; rw [h]
@[simp] theorem State.completeHead_multipliers (s : State) (r : ReplyResult) (d : ReplyData) : (s.completeHead r d).multipliers = s.multipliers := by
  obtain ⟨_, _, h⟩ := s.completeHead_eq r d; rw [h]
@[simp] theorem State.completeHead_holdingSlots (s : State) (r : ReplyResult) (d : ReplyData) : (s.completeHead r d).holdingSlots = s.holdingSlots := by
  obtain ⟨_, _, h⟩ := s.completeHead_eq r d; rw [h]
@[simp] theorem State.completeHead_forceArcLine (s : State) (r : ReplyResult) (d : ReplyData) : (s.completeHead r d).forceArcLine = s.forceArcLine := by
  obtain ⟨_, _, h⟩ := s.completeHead_eq r d; rw [h]
@[simp] theorem State.completeHead_forceInhibit (s : State) (r : ReplyResult) (d : ReplyData) : (s.completeHead r d).forceInhibit = s.forceInhibit := by
  obtain ⟨_, _, h⟩ := s.completeHead_eq r d; rw [h]
@[simp] theorem State.completeHead_resolvingSweep (s : State) (r : ReplyResult) (d : ReplyData) : (s.completeHead r d).resolvingSweep = s.resolvingSweep := by
  obtain ⟨_, _, h⟩ := s.completeHead_eq r d; rw [h]
@[simp] theorem State.completeHead_arcMasked (s : State) (r : ReplyResult) (d : ReplyData) : (s.completeHead r d).arcMasked = s.arcMasked := by
  obtain ⟨_, _, h⟩ := s.completeHead_eq r d; rw [h]
@[simp] theorem State.completeHead_reportHold (s : State) (r : ReplyResult) (d : ReplyData) : (s.completeHead r d).reportHold = s.reportHold := by
  obtain ⟨_, _, h⟩ := s.completeHead_eq r d; rw [h]
@[simp] theorem State.completeHead_linkStatistics (s : State) (r : ReplyResult) (d : ReplyData) : (s.completeHead r d).linkStatistics = s.linkStatistics := by
  obtain ⟨_, _, h⟩ := s.completeHead_eq r d; rw [h]
@[simp] theorem State.completeHead_lanePorts (s : State) (r : ReplyResult) (d : ReplyData) : (s.completeHead r d).lanePorts = s.lanePorts := by
  obtain ⟨_, _, h⟩ := s.completeHead_eq r d; rw [h]
@[simp] theorem State.completeHead_returnPort (s : State) (r : ReplyResult) (d : ReplyData) : (s.completeHead r d).returnPort = s.returnPort := by
  obtain ⟨_, _, h⟩ := s.completeHead_eq r d; rw [h]
@[simp] theorem State.completeHead_loopOutput (s : State) (r : ReplyResult) (d : ReplyData) : (s.completeHead r d).loopOutput = s.loopOutput := by
  obtain ⟨_, _, h⟩ := s.completeHead_eq r d; rw [h]
@[simp] theorem State.completeHead_inFlight (s : State) (r : ReplyResult) (d : ReplyData) : (s.completeHead r d).inFlight = s.inFlight := by
  obtain ⟨_, _, h⟩ := s.completeHead_eq r d; rw [h]
@[simp] theorem State.completeHead_sweepNumber (s : State) (r : ReplyResult) (d : ReplyData) : (s.completeHead r d).sweepNumber = s.sweepNumber := by
  obtain ⟨_, _, h⟩ := s.completeHead_eq r d; rw [h]
@[simp] theorem State.completeHead_intervalPeriod (s : State) (r : ReplyResult) (d : ReplyData) : (s.completeHead r d).intervalPeriod = s.intervalPeriod := by
  obtain ⟨_, _, h⟩ := s.completeHead_eq r d; rw [h]
@[simp] theorem State.completeHead_reportedModes (s : State) (r : ReplyResult) (d : ReplyData) : (s.completeHead r d).reportedModes = s.reportedModes := by
  obtain ⟨_, _, h⟩ := s.completeHead_eq r d; rw [h]
@[simp] theorem State.completeHead_consecutiveFailures (s : State) (r : ReplyResult) (d : ReplyData) : (s.completeHead r d).consecutiveFailures = s.consecutiveFailures := by
  obtain ⟨_, _, h⟩ := s.completeHead_eq r d; rw [h]
@[simp] theorem State.completeHead_staleCounts (s : State) (r : ReplyResult) (d : ReplyData) : (s.completeHead r d).staleCounts = s.staleCounts := by
  obtain ⟨_, _, h⟩ := s.completeHead_eq r d; rw [h]
@[simp] theorem State.completeHead_senseBlind (s : State) (r : ReplyResult) (d : ReplyData) : (s.completeHead r d).senseBlind = s.senseBlind := by
  obtain ⟨_, _, h⟩ := s.completeHead_eq r d; rw [h]
@[simp] theorem State.completeHead_headLost (s : State) (r : ReplyResult) (d : ReplyData) : (s.completeHead r d).headLost = s.headLost := by
  obtain ⟨_, _, h⟩ := s.completeHead_eq r d; rw [h]
@[simp] theorem State.completeHead_blindMute (s : State) (r : ReplyResult) (d : ReplyData) : (s.completeHead r d).blindMute = s.blindMute := by
  obtain ⟨_, _, h⟩ := s.completeHead_eq r d; rw [h]
@[simp] theorem State.completeHead_sweepStatistics (s : State) (r : ReplyResult) (d : ReplyData) : (s.completeHead r d).sweepStatistics = s.sweepStatistics := by
  obtain ⟨_, _, h⟩ := s.completeHead_eq r d; rw [h]
@[simp] theorem State.completeHead_pointRecords (s : State) (r : ReplyResult) (d : ReplyData) : (s.completeHead r d).pointRecords = s.pointRecords := by
  obtain ⟨_, _, h⟩ := s.completeHead_eq r d; rw [h]
@[simp] theorem State.completeHead_rowRuntimes (s : State) (r : ReplyResult) (d : ReplyData) : (s.completeHead r d).rowRuntimes = s.rowRuntimes := by
  obtain ⟨_, _, h⟩ := s.completeHead_eq r d; rw [h]
@[simp] theorem State.completeHead_zones (s : State) (r : ReplyResult) (d : ReplyData) : (s.completeHead r d).zones = s.zones := by
  obtain ⟨_, _, h⟩ := s.completeHead_eq r d; rw [h]
@[simp] theorem State.completeHead_lanes (s : State) (r : ReplyResult) (d : ReplyData) : (s.completeHead r d).lanes = s.lanes := by
  obtain ⟨_, _, h⟩ := s.completeHead_eq r d; rw [h]
@[simp] theorem State.completeHead_budget (s : State) (r : ReplyResult) (d : ReplyData) : (s.completeHead r d).budget = s.budget := by
  obtain ⟨_, _, h⟩ := s.completeHead_eq r d; rw [h]
@[simp] theorem State.completeHead_activeSet (s : State) (r : ReplyResult) (d : ReplyData) : (s.completeHead r d).activeSet = s.activeSet := by
  obtain ⟨_, _, h⟩ := s.completeHead_eq r d; rw [h]
@[simp] theorem State.completeHead_pendingSet (s : State) (r : ReplyResult) (d : ReplyData) : (s.completeHead r d).pendingSet = s.pendingSet := by
  obtain ⟨_, _, h⟩ := s.completeHead_eq r d; rw [h]
@[simp] theorem State.completeHead_waiting (s : State) (r : ReplyResult) (d : ReplyData) : (s.completeHead r d).waiting = s.waiting := by
  obtain ⟨_, _, h⟩ := s.completeHead_eq r d; rw [h]
@[simp] theorem State.completeHead_siteRecord (s : State) (r : ReplyResult) (d : ReplyData) : (s.completeHead r d).siteRecord = s.siteRecord := by
  obtain ⟨_, _, h⟩ := s.completeHead_eq r d; rw [h]
@[simp] theorem State.completeHead_phase (s : State) (r : ReplyResult) (d : ReplyData) : (s.completeHead r d).phase = s.phase := by
  obtain ⟨_, _, h⟩ := s.completeHead_eq r d; rw [h]
@[simp] theorem State.completeHead_refusal (s : State) (r : ReplyResult) (d : ReplyData) : (s.completeHead r d).refusal = s.refusal := by
  obtain ⟨_, _, h⟩ := s.completeHead_eq r d; rw [h]
@[simp] theorem State.completeHead_notices (s : State) (r : ReplyResult) (d : ReplyData) : (s.completeHead r d).notices = s.notices := by
  obtain ⟨_, _, h⟩ := s.completeHead_eq r d; rw [h]
@[simp] theorem State.completeHead_noticesDropped (s : State) (r : ReplyResult) (d : ReplyData) : (s.completeHead r d).noticesDropped = s.noticesDropped := by
  obtain ⟨_, _, h⟩ := s.completeHead_eq r d; rw [h]
@[simp] theorem State.completeHead_droppedCount (s : State) (r : ReplyResult) (d : ReplyData) : (s.completeHead r d).droppedCount = s.droppedCount := by
  obtain ⟨_, _, h⟩ := s.completeHead_eq r d; rw [h]
@[simp] theorem State.completeHead_snapshotCount (s : State) (r : ReplyResult) (d : ReplyData) : (s.completeHead r d).snapshotCount = s.snapshotCount := by
  obtain ⟨_, _, h⟩ := s.completeHead_eq r d; rw [h]
@[simp] theorem State.completeHead_snapshot (s : State) (r : ReplyResult) (d : ReplyData) : (s.completeHead r d).snapshot = s.snapshot := by
  obtain ⟨_, _, h⟩ := s.completeHead_eq r d; rw [h]
@[simp] theorem State.completeHead_evaluation (s : State) (r : ReplyResult) (d : ReplyData) : (s.completeHead r d).evaluation = s.evaluation := by
  obtain ⟨_, _, h⟩ := s.completeHead_eq r d; rw [h]
@[simp] theorem State.completeHead_lastEvaluation (s : State) (r : ReplyResult) (d : ReplyData) : (s.completeHead r d).lastEvaluation = s.lastEvaluation := by
  obtain ⟨_, _, h⟩ := s.completeHead_eq r d; rw [h]
@[simp] theorem State.completeHead_draws (s : State) (r : ReplyResult) (d : ReplyData) : (s.completeHead r d).draws = s.draws := by
  obtain ⟨_, _, h⟩ := s.completeHead_eq r d; rw [h]
@[simp] theorem State.completeHead_pending (s : State) (r : ReplyResult) (d : ReplyData) : (s.completeHead r d).pending = s.pending := by
  obtain ⟨_, _, h⟩ := s.completeHead_eq r d; rw [h]

@[simp] theorem State.refuseCommand_inReset (s : State) (t : Tag) : (s.refuseCommand t).inReset = s.inReset := by
  obtain ⟨_, h⟩ := s.refuseCommand_eq t; rw [h]
@[simp] theorem State.refuseCommand_inhibitLow (s : State) (t : Tag) : (s.refuseCommand t).inhibitLow = s.inhibitLow := by
  obtain ⟨_, h⟩ := s.refuseCommand_eq t; rw [h]
@[simp] theorem State.refuseCommand_arcLow (s : State) (t : Tag) : (s.refuseCommand t).arcLow = s.arcLow := by
  obtain ⟨_, h⟩ := s.refuseCommand_eq t; rw [h]
@[simp] theorem State.refuseCommand_probePolHigh (s : State) (t : Tag) : (s.refuseCommand t).probePolHigh = s.probePolHigh := by
  obtain ⟨_, h⟩ := s.refuseCommand_eq t; rw [h]
@[simp] theorem State.refuseCommand_link (s : State) (t : Tag) : (s.refuseCommand t).link = s.link := by
  obtain ⟨_, h⟩ := s.refuseCommand_eq t; rw [h]
@[simp] theorem State.refuseCommand_goodFrames (s : State) (t : Tag) : (s.refuseCommand t).goodFrames = s.goodFrames := by
  obtain ⟨_, h⟩ := s.refuseCommand_eq t; rw [h]
@[simp] theorem State.refuseCommand_badFrames (s : State) (t : Tag) : (s.refuseCommand t).badFrames = s.badFrames := by
  obtain ⟨_, h⟩ := s.refuseCommand_eq t; rw [h]
@[simp] theorem State.refuseCommand_multipliers (s : State) (t : Tag) : (s.refuseCommand t).multipliers = s.multipliers := by
  obtain ⟨_, h⟩ := s.refuseCommand_eq t; rw [h]
@[simp] theorem State.refuseCommand_holdingSlots (s : State) (t : Tag) : (s.refuseCommand t).holdingSlots = s.holdingSlots := by
  obtain ⟨_, h⟩ := s.refuseCommand_eq t; rw [h]
@[simp] theorem State.refuseCommand_forceArcLine (s : State) (t : Tag) : (s.refuseCommand t).forceArcLine = s.forceArcLine := by
  obtain ⟨_, h⟩ := s.refuseCommand_eq t; rw [h]
@[simp] theorem State.refuseCommand_forceInhibit (s : State) (t : Tag) : (s.refuseCommand t).forceInhibit = s.forceInhibit := by
  obtain ⟨_, h⟩ := s.refuseCommand_eq t; rw [h]
@[simp] theorem State.refuseCommand_resolvingSweep (s : State) (t : Tag) : (s.refuseCommand t).resolvingSweep = s.resolvingSweep := by
  obtain ⟨_, h⟩ := s.refuseCommand_eq t; rw [h]
@[simp] theorem State.refuseCommand_arcMasked (s : State) (t : Tag) : (s.refuseCommand t).arcMasked = s.arcMasked := by
  obtain ⟨_, h⟩ := s.refuseCommand_eq t; rw [h]
@[simp] theorem State.refuseCommand_reportHold (s : State) (t : Tag) : (s.refuseCommand t).reportHold = s.reportHold := by
  obtain ⟨_, h⟩ := s.refuseCommand_eq t; rw [h]
@[simp] theorem State.refuseCommand_linkStatistics (s : State) (t : Tag) : (s.refuseCommand t).linkStatistics = s.linkStatistics := by
  obtain ⟨_, h⟩ := s.refuseCommand_eq t; rw [h]
@[simp] theorem State.refuseCommand_lanePorts (s : State) (t : Tag) : (s.refuseCommand t).lanePorts = s.lanePorts := by
  obtain ⟨_, h⟩ := s.refuseCommand_eq t; rw [h]
@[simp] theorem State.refuseCommand_returnPort (s : State) (t : Tag) : (s.refuseCommand t).returnPort = s.returnPort := by
  obtain ⟨_, h⟩ := s.refuseCommand_eq t; rw [h]
@[simp] theorem State.refuseCommand_loopOutput (s : State) (t : Tag) : (s.refuseCommand t).loopOutput = s.loopOutput := by
  obtain ⟨_, h⟩ := s.refuseCommand_eq t; rw [h]
@[simp] theorem State.refuseCommand_inFlight (s : State) (t : Tag) : (s.refuseCommand t).inFlight = s.inFlight := by
  obtain ⟨_, h⟩ := s.refuseCommand_eq t; rw [h]
@[simp] theorem State.refuseCommand_sweepNumber (s : State) (t : Tag) : (s.refuseCommand t).sweepNumber = s.sweepNumber := by
  obtain ⟨_, h⟩ := s.refuseCommand_eq t; rw [h]
@[simp] theorem State.refuseCommand_intervalPeriod (s : State) (t : Tag) : (s.refuseCommand t).intervalPeriod = s.intervalPeriod := by
  obtain ⟨_, h⟩ := s.refuseCommand_eq t; rw [h]
@[simp] theorem State.refuseCommand_reportedModes (s : State) (t : Tag) : (s.refuseCommand t).reportedModes = s.reportedModes := by
  obtain ⟨_, h⟩ := s.refuseCommand_eq t; rw [h]
@[simp] theorem State.refuseCommand_consecutiveFailures (s : State) (t : Tag) : (s.refuseCommand t).consecutiveFailures = s.consecutiveFailures := by
  obtain ⟨_, h⟩ := s.refuseCommand_eq t; rw [h]
@[simp] theorem State.refuseCommand_staleCounts (s : State) (t : Tag) : (s.refuseCommand t).staleCounts = s.staleCounts := by
  obtain ⟨_, h⟩ := s.refuseCommand_eq t; rw [h]
@[simp] theorem State.refuseCommand_senseBlind (s : State) (t : Tag) : (s.refuseCommand t).senseBlind = s.senseBlind := by
  obtain ⟨_, h⟩ := s.refuseCommand_eq t; rw [h]
@[simp] theorem State.refuseCommand_headLost (s : State) (t : Tag) : (s.refuseCommand t).headLost = s.headLost := by
  obtain ⟨_, h⟩ := s.refuseCommand_eq t; rw [h]
@[simp] theorem State.refuseCommand_blindMute (s : State) (t : Tag) : (s.refuseCommand t).blindMute = s.blindMute := by
  obtain ⟨_, h⟩ := s.refuseCommand_eq t; rw [h]
@[simp] theorem State.refuseCommand_sweepStatistics (s : State) (t : Tag) : (s.refuseCommand t).sweepStatistics = s.sweepStatistics := by
  obtain ⟨_, h⟩ := s.refuseCommand_eq t; rw [h]
@[simp] theorem State.refuseCommand_pointRecords (s : State) (t : Tag) : (s.refuseCommand t).pointRecords = s.pointRecords := by
  obtain ⟨_, h⟩ := s.refuseCommand_eq t; rw [h]
@[simp] theorem State.refuseCommand_rowRuntimes (s : State) (t : Tag) : (s.refuseCommand t).rowRuntimes = s.rowRuntimes := by
  obtain ⟨_, h⟩ := s.refuseCommand_eq t; rw [h]
@[simp] theorem State.refuseCommand_zones (s : State) (t : Tag) : (s.refuseCommand t).zones = s.zones := by
  obtain ⟨_, h⟩ := s.refuseCommand_eq t; rw [h]
@[simp] theorem State.refuseCommand_lanes (s : State) (t : Tag) : (s.refuseCommand t).lanes = s.lanes := by
  obtain ⟨_, h⟩ := s.refuseCommand_eq t; rw [h]
@[simp] theorem State.refuseCommand_budget (s : State) (t : Tag) : (s.refuseCommand t).budget = s.budget := by
  obtain ⟨_, h⟩ := s.refuseCommand_eq t; rw [h]
@[simp] theorem State.refuseCommand_activeSet (s : State) (t : Tag) : (s.refuseCommand t).activeSet = s.activeSet := by
  obtain ⟨_, h⟩ := s.refuseCommand_eq t; rw [h]
@[simp] theorem State.refuseCommand_pendingSet (s : State) (t : Tag) : (s.refuseCommand t).pendingSet = s.pendingSet := by
  obtain ⟨_, h⟩ := s.refuseCommand_eq t; rw [h]
@[simp] theorem State.refuseCommand_waiting (s : State) (t : Tag) : (s.refuseCommand t).waiting = s.waiting := by
  obtain ⟨_, h⟩ := s.refuseCommand_eq t; rw [h]
@[simp] theorem State.refuseCommand_siteRecord (s : State) (t : Tag) : (s.refuseCommand t).siteRecord = s.siteRecord := by
  obtain ⟨_, h⟩ := s.refuseCommand_eq t; rw [h]
@[simp] theorem State.refuseCommand_phase (s : State) (t : Tag) : (s.refuseCommand t).phase = s.phase := by
  obtain ⟨_, h⟩ := s.refuseCommand_eq t; rw [h]
@[simp] theorem State.refuseCommand_commands (s : State) (t : Tag) : (s.refuseCommand t).commands = s.commands := by
  obtain ⟨_, h⟩ := s.refuseCommand_eq t; rw [h]
@[simp] theorem State.refuseCommand_replies (s : State) (t : Tag) : (s.refuseCommand t).replies = s.replies := by
  obtain ⟨_, h⟩ := s.refuseCommand_eq t; rw [h]
@[simp] theorem State.refuseCommand_notices (s : State) (t : Tag) : (s.refuseCommand t).notices = s.notices := by
  obtain ⟨_, h⟩ := s.refuseCommand_eq t; rw [h]
@[simp] theorem State.refuseCommand_noticesDropped (s : State) (t : Tag) : (s.refuseCommand t).noticesDropped = s.noticesDropped := by
  obtain ⟨_, h⟩ := s.refuseCommand_eq t; rw [h]
@[simp] theorem State.refuseCommand_droppedCount (s : State) (t : Tag) : (s.refuseCommand t).droppedCount = s.droppedCount := by
  obtain ⟨_, h⟩ := s.refuseCommand_eq t; rw [h]
@[simp] theorem State.refuseCommand_snapshotCount (s : State) (t : Tag) : (s.refuseCommand t).snapshotCount = s.snapshotCount := by
  obtain ⟨_, h⟩ := s.refuseCommand_eq t; rw [h]
@[simp] theorem State.refuseCommand_snapshot (s : State) (t : Tag) : (s.refuseCommand t).snapshot = s.snapshot := by
  obtain ⟨_, h⟩ := s.refuseCommand_eq t; rw [h]
@[simp] theorem State.refuseCommand_evaluation (s : State) (t : Tag) : (s.refuseCommand t).evaluation = s.evaluation := by
  obtain ⟨_, h⟩ := s.refuseCommand_eq t; rw [h]
@[simp] theorem State.refuseCommand_lastEvaluation (s : State) (t : Tag) : (s.refuseCommand t).lastEvaluation = s.lastEvaluation := by
  obtain ⟨_, h⟩ := s.refuseCommand_eq t; rw [h]
@[simp] theorem State.refuseCommand_draws (s : State) (t : Tag) : (s.refuseCommand t).draws = s.draws := by
  obtain ⟨_, h⟩ := s.refuseCommand_eq t; rw [h]
@[simp] theorem State.refuseCommand_pending (s : State) (t : Tag) : (s.refuseCommand t).pending = s.pending := by
  obtain ⟨_, h⟩ := s.refuseCommand_eq t; rw [h]

@[simp] theorem State.answer_inReset (s : State) (t : Tag) (k : Word) (r : ReplyResult) (d : ReplyData) : (s.answer t k r d).inReset = s.inReset := rfl
@[simp] theorem State.answer_inhibitLow (s : State) (t : Tag) (k : Word) (r : ReplyResult) (d : ReplyData) : (s.answer t k r d).inhibitLow = s.inhibitLow := rfl
@[simp] theorem State.answer_arcLow (s : State) (t : Tag) (k : Word) (r : ReplyResult) (d : ReplyData) : (s.answer t k r d).arcLow = s.arcLow := rfl
@[simp] theorem State.answer_probePolHigh (s : State) (t : Tag) (k : Word) (r : ReplyResult) (d : ReplyData) : (s.answer t k r d).probePolHigh = s.probePolHigh := rfl
@[simp] theorem State.answer_link (s : State) (t : Tag) (k : Word) (r : ReplyResult) (d : ReplyData) : (s.answer t k r d).link = s.link := rfl
@[simp] theorem State.answer_goodFrames (s : State) (t : Tag) (k : Word) (r : ReplyResult) (d : ReplyData) : (s.answer t k r d).goodFrames = s.goodFrames := rfl
@[simp] theorem State.answer_badFrames (s : State) (t : Tag) (k : Word) (r : ReplyResult) (d : ReplyData) : (s.answer t k r d).badFrames = s.badFrames := rfl
@[simp] theorem State.answer_multipliers (s : State) (t : Tag) (k : Word) (r : ReplyResult) (d : ReplyData) : (s.answer t k r d).multipliers = s.multipliers := rfl
@[simp] theorem State.answer_holdingSlots (s : State) (t : Tag) (k : Word) (r : ReplyResult) (d : ReplyData) : (s.answer t k r d).holdingSlots = s.holdingSlots := rfl
@[simp] theorem State.answer_forceArcLine (s : State) (t : Tag) (k : Word) (r : ReplyResult) (d : ReplyData) : (s.answer t k r d).forceArcLine = s.forceArcLine := rfl
@[simp] theorem State.answer_forceInhibit (s : State) (t : Tag) (k : Word) (r : ReplyResult) (d : ReplyData) : (s.answer t k r d).forceInhibit = s.forceInhibit := rfl
@[simp] theorem State.answer_resolvingSweep (s : State) (t : Tag) (k : Word) (r : ReplyResult) (d : ReplyData) : (s.answer t k r d).resolvingSweep = s.resolvingSweep := rfl
@[simp] theorem State.answer_arcMasked (s : State) (t : Tag) (k : Word) (r : ReplyResult) (d : ReplyData) : (s.answer t k r d).arcMasked = s.arcMasked := rfl
@[simp] theorem State.answer_reportHold (s : State) (t : Tag) (k : Word) (r : ReplyResult) (d : ReplyData) : (s.answer t k r d).reportHold = s.reportHold := rfl
@[simp] theorem State.answer_linkStatistics (s : State) (t : Tag) (k : Word) (r : ReplyResult) (d : ReplyData) : (s.answer t k r d).linkStatistics = s.linkStatistics := rfl
@[simp] theorem State.answer_lanePorts (s : State) (t : Tag) (k : Word) (r : ReplyResult) (d : ReplyData) : (s.answer t k r d).lanePorts = s.lanePorts := rfl
@[simp] theorem State.answer_returnPort (s : State) (t : Tag) (k : Word) (r : ReplyResult) (d : ReplyData) : (s.answer t k r d).returnPort = s.returnPort := rfl
@[simp] theorem State.answer_loopOutput (s : State) (t : Tag) (k : Word) (r : ReplyResult) (d : ReplyData) : (s.answer t k r d).loopOutput = s.loopOutput := rfl
@[simp] theorem State.answer_inFlight (s : State) (t : Tag) (k : Word) (r : ReplyResult) (d : ReplyData) : (s.answer t k r d).inFlight = s.inFlight := rfl
@[simp] theorem State.answer_sweepNumber (s : State) (t : Tag) (k : Word) (r : ReplyResult) (d : ReplyData) : (s.answer t k r d).sweepNumber = s.sweepNumber := rfl
@[simp] theorem State.answer_intervalPeriod (s : State) (t : Tag) (k : Word) (r : ReplyResult) (d : ReplyData) : (s.answer t k r d).intervalPeriod = s.intervalPeriod := rfl
@[simp] theorem State.answer_reportedModes (s : State) (t : Tag) (k : Word) (r : ReplyResult) (d : ReplyData) : (s.answer t k r d).reportedModes = s.reportedModes := rfl
@[simp] theorem State.answer_consecutiveFailures (s : State) (t : Tag) (k : Word) (r : ReplyResult) (d : ReplyData) : (s.answer t k r d).consecutiveFailures = s.consecutiveFailures := rfl
@[simp] theorem State.answer_staleCounts (s : State) (t : Tag) (k : Word) (r : ReplyResult) (d : ReplyData) : (s.answer t k r d).staleCounts = s.staleCounts := rfl
@[simp] theorem State.answer_senseBlind (s : State) (t : Tag) (k : Word) (r : ReplyResult) (d : ReplyData) : (s.answer t k r d).senseBlind = s.senseBlind := rfl
@[simp] theorem State.answer_headLost (s : State) (t : Tag) (k : Word) (r : ReplyResult) (d : ReplyData) : (s.answer t k r d).headLost = s.headLost := rfl
@[simp] theorem State.answer_blindMute (s : State) (t : Tag) (k : Word) (r : ReplyResult) (d : ReplyData) : (s.answer t k r d).blindMute = s.blindMute := rfl
@[simp] theorem State.answer_sweepStatistics (s : State) (t : Tag) (k : Word) (r : ReplyResult) (d : ReplyData) : (s.answer t k r d).sweepStatistics = s.sweepStatistics := rfl
@[simp] theorem State.answer_pointRecords (s : State) (t : Tag) (k : Word) (r : ReplyResult) (d : ReplyData) : (s.answer t k r d).pointRecords = s.pointRecords := rfl
@[simp] theorem State.answer_rowRuntimes (s : State) (t : Tag) (k : Word) (r : ReplyResult) (d : ReplyData) : (s.answer t k r d).rowRuntimes = s.rowRuntimes := rfl
@[simp] theorem State.answer_zones (s : State) (t : Tag) (k : Word) (r : ReplyResult) (d : ReplyData) : (s.answer t k r d).zones = s.zones := rfl
@[simp] theorem State.answer_lanes (s : State) (t : Tag) (k : Word) (r : ReplyResult) (d : ReplyData) : (s.answer t k r d).lanes = s.lanes := rfl
@[simp] theorem State.answer_budget (s : State) (t : Tag) (k : Word) (r : ReplyResult) (d : ReplyData) : (s.answer t k r d).budget = s.budget := rfl
@[simp] theorem State.answer_activeSet (s : State) (t : Tag) (k : Word) (r : ReplyResult) (d : ReplyData) : (s.answer t k r d).activeSet = s.activeSet := rfl
@[simp] theorem State.answer_pendingSet (s : State) (t : Tag) (k : Word) (r : ReplyResult) (d : ReplyData) : (s.answer t k r d).pendingSet = s.pendingSet := rfl
@[simp] theorem State.answer_waiting (s : State) (t : Tag) (k : Word) (r : ReplyResult) (d : ReplyData) : (s.answer t k r d).waiting = s.waiting := rfl
@[simp] theorem State.answer_siteRecord (s : State) (t : Tag) (k : Word) (r : ReplyResult) (d : ReplyData) : (s.answer t k r d).siteRecord = s.siteRecord := rfl
@[simp] theorem State.answer_phase (s : State) (t : Tag) (k : Word) (r : ReplyResult) (d : ReplyData) : (s.answer t k r d).phase = s.phase := rfl
@[simp] theorem State.answer_commands (s : State) (t : Tag) (k : Word) (r : ReplyResult) (d : ReplyData) : (s.answer t k r d).commands = s.commands := rfl
@[simp] theorem State.answer_refusal (s : State) (t : Tag) (k : Word) (r : ReplyResult) (d : ReplyData) : (s.answer t k r d).refusal = s.refusal := rfl
@[simp] theorem State.answer_notices (s : State) (t : Tag) (k : Word) (r : ReplyResult) (d : ReplyData) : (s.answer t k r d).notices = s.notices := rfl
@[simp] theorem State.answer_noticesDropped (s : State) (t : Tag) (k : Word) (r : ReplyResult) (d : ReplyData) : (s.answer t k r d).noticesDropped = s.noticesDropped := rfl
@[simp] theorem State.answer_droppedCount (s : State) (t : Tag) (k : Word) (r : ReplyResult) (d : ReplyData) : (s.answer t k r d).droppedCount = s.droppedCount := rfl
@[simp] theorem State.answer_snapshotCount (s : State) (t : Tag) (k : Word) (r : ReplyResult) (d : ReplyData) : (s.answer t k r d).snapshotCount = s.snapshotCount := rfl
@[simp] theorem State.answer_snapshot (s : State) (t : Tag) (k : Word) (r : ReplyResult) (d : ReplyData) : (s.answer t k r d).snapshot = s.snapshot := rfl
@[simp] theorem State.answer_evaluation (s : State) (t : Tag) (k : Word) (r : ReplyResult) (d : ReplyData) : (s.answer t k r d).evaluation = s.evaluation := rfl
@[simp] theorem State.answer_lastEvaluation (s : State) (t : Tag) (k : Word) (r : ReplyResult) (d : ReplyData) : (s.answer t k r d).lastEvaluation = s.lastEvaluation := rfl
@[simp] theorem State.answer_draws (s : State) (t : Tag) (k : Word) (r : ReplyResult) (d : ReplyData) : (s.answer t k r d).draws = s.draws := rfl
@[simp] theorem State.answer_pending (s : State) (t : Tag) (k : Word) (r : ReplyResult) (d : ReplyData) : (s.answer t k r d).pending = s.pending := rfl

@[simp] theorem State.answer_replies (s : State) (t : Tag) (k : Word) (r : ReplyResult) (d : ReplyData) :
    (s.answer t k r d).replies = s.replies ++ [{ tag := t, kind := k, result := r, data := d }] := rfl

/-! ### Reading one record after a write -/

@[simp] theorem State.lane_setLane_self (s : State) (l : Nat) (v : Lane) (h : l < s.lanes.length) :
    (s.setLane l v).lane l = v := by
  simp [State.lane, h]

@[simp] theorem State.lane_setLane_ne (s : State) {l k : Nat} (v : Lane) (h : l ≠ k) :
    (s.setLane l v).lane k = s.lane k := by
  simp [State.lane, List.getD_eq_getElem?_getD, List.getElem?_set_ne h]

@[simp] theorem State.zone_setZone_self (s : State) (z : Nat) (v : Zone) (h : z < s.zones.length) :
    (s.setZone z v).zone z = v := by
  simp [State.zone, h]

@[simp] theorem State.zone_setZone_ne (s : State) {z k : Nat} (v : Zone) (h : z ≠ k) :
    (s.setZone z v).zone k = s.zone k := by
  simp [State.zone, List.getD_eq_getElem?_getD, List.getElem?_set_ne h]

@[simp] theorem State.multiplier_handOver_self (s : State) (l a : Nat) (h : l < s.multipliers.length) :
    (s.handOver l a).multiplier l = multiplierOf a := by
  simp [State.multiplier, h]

@[simp] theorem State.multiplier_handOver_ne (s : State) {l k : Nat} (a : Nat) (h : l ≠ k) :
    (s.handOver l a).multiplier k = s.multiplier k := by
  simp [State.multiplier, List.getD_eq_getElem?_getD, List.getElem?_set_ne h]

@[simp] theorem State.rowRuntime_setRow_ne (s : State) {r k : Nat} (v : RowRuntime) (h : r ≠ k) :
    (s.setRow r v).rowRuntime k = s.rowRuntime k := by
  simp [State.rowRuntime, List.getD_eq_getElem?_getD, List.getElem?_set_ne h]

@[simp] theorem State.pointRecord_setPoint_ne (s : State) {i k : Nat} (v : PointRecord) (h : i ≠ k) :
    (s.setPoint i v).pointRecord k = s.pointRecord k := by
  simp [State.pointRecord, List.getD_eq_getElem?_getD, List.getElem?_set_ne h]

end Sys2Proof.Machine
end

