-- ==== Sys2Proof/Laws/Ops.lean ====
section
/-! SUPPORT. One lemma per shared operation that says once what it can do, for proofs to cite in its place. -/

namespace Sys2Proof.Machine

/-! ### Arithmetic -/

/-- A saturating count is the lesser of its greatest value and one more. -/
theorem saturatingSucc_eq_min (g n : Nat) : saturatingSucc g n = min g (n + 1) := by
  unfold saturatingSucc
  split <;> omega

/-- Clamping is a greatest of a least. -/
theorem clampInt_eq (low high v : Int) (h : low ≤ high) : clampInt low high v = max low (min high v) := by
  unfold clampInt
  split
  · omega
  · split <;> omega

/-! ### Reset -/

theorem State.unlessReset_of_running {s : State} (h : s.inReset = false) (f : State → State) :
    s.unlessReset f = f s := by
  simp [State.unlessReset, h]

theorem State.unlessReset_of_inReset {s : State} (h : s.inReset = true) (f : State → State) :
    s.unlessReset f = s := by
  simp [State.unlessReset, h]

/-! ### Events during an evaluation -/

/-- With no event in the list nothing is done at any place. -/
@[simp] theorem eventsAt_nil : eventsAt [] = undisturbed := rfl

@[simp] theorem undisturbed_apply (p : EvalPoint) (s : State) : undisturbed p s = s := rfl

/-- An operation on each index of an extended list: the list's operations, then the last one. -/
theorem forEach_append_single (is : List Nat) (i : Nat) (f : Nat → State → State) (s : State) :
    forEach (is ++ [i]) f s = f i (forEach is f s) := by
  simp [forEach, List.foldl_append]

/-- What every operation of a run over indices keeps, the run keeps. -/
theorem forEach_keeps {P : State → Prop} {is : List Nat} {f : Nat → State → State} {s : State}
    (hf : ∀ i ∈ is, ∀ t, P t → P (f i t)) (hs : P s) : P (forEach is f s) := by
  unfold forEach
  induction is generalizing s with
  | nil => exact hs
  | cons i is ih =>
    exact ih (fun j hj => hf j (List.mem_cons_of_mem _ hj)) (hf i List.mem_cons_self s hs)

/-- A field that every operation of a run over indices keeps is as it was after the run. -/
theorem forEach_field {α : Type} (g : State → α) {is : List Nat} {f : Nat → State → State}
    (hf : ∀ i ∈ is, ∀ t, g (f i t) = g t) (s : State) : g (forEach is f s) = g s :=
  forEach_keeps (P := fun t => g t = g s) (fun i hi t h => (hf i hi t).trans h) rfl

/-- Queuing for each index with no event meanwhile keeps what queuing one notice keeps. -/
theorem State.queueEach_field {α : Type} (g : State → α) (hg : ∀ (s : State) n, g (s.queueNotice? n) = g s) (s : State)
    (is : List Nat) (notice : Nat → Option Notice) :
    g (s.queueEach is notice fun _ t => t) = g s :=
  forEach_field g (fun i _ t => hg t (notice i)) s

/-- A blank entry on one lane writes that lane's record and what the evaluation in progress notes of it, and nothing
else. -/
theorem blankLane_eq (l : Nat) (s : State) :
    blankLane l s = { s with lanes := (blankLane l s).lanes, evaluation := (blankLane l s).evaluation } := by
  simp only [blankLane]
  split <;> rfl

/-- A blank entry on one lane leaves every other lane. -/
theorem blankLane_lane_ne {l k : Nat} (h : l ≠ k) (s : State) : (blankLane l s).lane k = s.lane k := by
  simp only [blankLane]
  split
  · rfl
  · exact State.lane_setLane_ne s _ h

/-- When no index has a notice, none is queued. -/
theorem State.queueEach_none (s : State) {is : List Nat} {notice : Nat → Option Notice}
    (h : ∀ i ∈ is, notice i = none) : s.queueEach is notice (fun _ t => t) = s :=
  forEach_keeps (P := fun t => t = s) (fun i hi t ht => by simp [ht, h i hi, State.queueNotice?]) rfl

/-! ### Taking commands -/

/-- A Ready state holds no command back. -/
theorem State.Ready.holdsCommands {s : State} (h : s.Ready) (q : List QueuedCommand) :
    State.holdsCommands { s with commands := q } = false := by
  obtain ⟨hr, he, hw, -, -⟩ := h
  simp [State.holdsCommands, State.evaluating, State.activationPending, hr, he, hw]

/-- On a Ready state a command that arrives is carried out at once. -/
theorem State.Ready.submit {s : State} (h : s.Ready) (tag : Tag) (p : List Word) :
    s.submit tag p =
      match takeCommand (decodeCommand p) { s with commands := [QueuedCommand.mk tag p] } with
      | (t, none) => t
      | (t, some (result, data)) => t.completeHead result data := by
  have hh := h.holdsCommands
  obtain ⟨-, -, -, hc, hl⟩ := h
  have hp : s.placesHeld < commandPlaces := by simpa [State.placesHeld, hc] using hl
  simp only [State.submit, hp, if_true, State.drainCommands, hc, List.nil_append, List.length_cons, List.length_nil,
    Nat.zero_add, State.takeCommands, hh, Bool.false_eq_true, if_false]
  all_goals
    generalize takeCommand (decodeCommand p) _ = o
    obtain ⟨t, _ | ⟨r, d⟩⟩ := o <;> rfl

/-- A command that arrives on a Ready state through a management row. -/
theorem State.Ready.arrive {s : State} (h : s.Ready) (tag : Tag) (ws : List Word) :
    s.arrive tag ws = s.submit tag (payloadOf ws) := by
  simp [State.arrive, h.1]

/-- Completing the one command of a state that has no other: the reply of that command, and an empty queue. -/
theorem State.completeHead_single (s : State) (tag : Tag) (p : List Word) (r : ReplyResult) (d : ReplyData)
    (h : s.commands = [QueuedCommand.mk tag p]) :
    s.completeHead r d = { s with commands := [] }.answer tag (p.getD 0 0) r d := by
  simp [State.completeHead, State.answer, h]

/-- A Ready state is what it is with its command queue emptied. -/
theorem State.Ready.empty_commands {s : State} (h : s.Ready) : { s with commands := [] } = s := by
  have hc := h.2.2.2.1
  cases s
  simp_all

/-- While an evaluation is in progress or an activation waits, no command is taken. -/
theorem State.takeCommands_of_holds {s : State} (h : s.holdsCommands = true) (n : Nat) : s.takeCommands n = s := by
  cases n <;> simp [State.takeCommands, h]

/-! ### Padding of payloads -/

/-- A payload of fewer than 64 words is padded with zeros. -/
theorem payloadOf_eq (ws : List Word) (k : Nat) (h : ws.length + k = 64) :
    payloadOf ws = ws ++ List.replicate k 0 := by
  unfold payloadOf
  rw [List.take_append, List.take_of_length_le (by omega), List.take_replicate]
  congr 2
  omega

/-- The argument words of a padded payload read as those given. -/
theorem arg_pad (f : List Word) (n m i : Nat) (h : f.length ≤ n) :
    arg ((f ++ List.replicate m 0).take n) i = arg f i := by
  unfold arg
  congr 1
  simp only [List.getD_eq_getElem?_getD, List.getElem?_take, List.getElem?_append, List.getElem?_replicate]
  by_cases h1 : i < f.length
  · have : i < n := by omega
    simp [h1, this]
  · rw [List.getElem?_eq_none (by omega : f.length ≤ i)]
    split
    · split <;> simp
    · simp

theorem parseBreakpoints_congr {f g : List Word} (h : ∀ i, arg f i = arg g i) (n i : Nat) :
    parseBreakpoints f n i = parseBreakpoints g n i := by
  induction n generalizing i with
  | zero => rfl
  | succ n ih => simp only [parseBreakpoints, h, ih]

/-- The operand forms read their fields through `arg` alone. -/
theorem parse_congr {f g : List Word} (h : ∀ i, arg f i = arg g i) :
    parsePoint f = parsePoint g ∧ parseHead f = parseHead g ∧ parseCurve f = parseCurve g ∧
    parseRow f = parseRow g ∧ parseZone f = parseZone g ∧ parseLanePlan f = parseLanePlan g ∧
    parseParameters f = parseParameters g ∧ parseSite f = parseSite g := by
  refine ⟨?_, ?_, ?_, ?_, ?_, ?_, ?_, ?_⟩
  · simp only [parsePoint, h]
  · simp only [parseHead, h]
  · simp only [parseCurve, h, parseBreakpoints_congr h]
  · simp only [parseRow, h]
  · simp only [parseZone, h]
  · simp only [parseLanePlan, arg32, h]
  · simp only [parseParameters, h]
  · simp only [parseSite, arg32, h]

/-! ### The HELD source of a row -/

theorem State.heldRatioSource_eq_some (s : State) (r i : Nat) : s.heldRatioSource r = some i ↔ s.HeldSource r i := by
  constructor
  · intro h
    unfold State.heldRatioSource at h
    split at h
    · rename_i d hd
      split at h
      · rename_i e p h1 h2
        split at h
        · rename_i h3
          simp only [Option.some.injEq] at h
          subst h
          exact ⟨d, e, p, hd, rfl, h1, h3.1, h2, h3.2⟩
        · simp at h
      · simp at h
    · simp at h
  · rintro ⟨d, e, p, hd, rfl, h1, h2, h3, h4⟩
    simp [State.heldRatioSource, hd, h1, h2, h3, h4]

theorem State.heldRatioSource_eq_none (s : State) (r : Nat) :
    s.heldRatioSource r = none ↔ ∀ i, ¬ s.HeldSource r i := by
  simp only [← State.heldRatioSource_eq_some]
  cases s.heldRatioSource r <;> simp

/-! ### The evaluation with no event meanwhile -/

/-- An evaluation in which no other block takes an event is the seven stages in order. -/
theorem State.evaluate_nil (s : State) (sweep : SweepNo) (records : Option (List HeadRecord)) :
    s.evaluate sweep records [] = s.sevenStages sweep records := by
  unfold State.evaluate State.sevenStages
  have quiet : eventsAt [] = undisturbed := rfl
  have begun : s.beginEvaluation sweep = { s with
      lastEvaluation := sweep
      evaluation := some
        { removalDecided := false, startStates := s.lanes.map (·.state), mutedSince := List.replicate 8 false
          movedFrom := List.replicate 8 none } } := rfl
  have number : ∀ b f, ((classify sweep records b).2.remark f).sweep = sweep := by
    intro b f
    cases records <;> rfl
  rw [quiet, ← begun]
  clear begun
  simp only [openingStages, measuringStages, handlingStages, undisturbed, number]

end Sys2Proof.Machine
end

