-- ==== Sys2Proof/Tests/Slice0.lean ====
section
/-! SUPPORT. Tests: the WellFormed smoke, the spec's worked figures, single steps on small states, and for every statement
with hypotheses a state and operands that meet them. Expected results are the spec's own figures, or worked by hand from
its rules. -/

namespace Sys2Proof.Tests

set_option Elab.async false

open Sys2Proof Sys2Proof.Machine

/-! ### Small states -/

/-- The lane plan of lane 0 in the worked case of section 5.11: W = 2000, Pcal = 40000. -/
def plan : LanePlan where
  ratedWatts := 2000
  pcal := 40000
  ratioPoint := some 2
  budgetClass := .strict 1
  reducedLevel := 500
  rampRate := 5
  probePolicy := .followStrap

/-- A FWD, a REF and a RATIO point of lane 0 on head 0. -/
def points : List (Option PointEntry) :=
  [some { kind := .fwd, scope := .lane 0, source := .head 0 0 .last 125 0 },
   some { kind := .ref, scope := .lane 0, source := .head 0 1 .last 125 0 },
   some { kind := .ratio, scope := .lane 0, source := .ratio 0 1 }]

/-- A latching MUTE row, a curve CEILING row and an ARC row. -/
def rows : List (Option RowEntry) :=
  [some { source := 2, sense := .above, threshold := 2000, release := 1500, qualifyCount := 2, releaseCount := 2
          action := .mute, ceiling := none, scope := .lane 0, latch := .latch, report := .alert, gated := false
          scaled := false },
   some { source := 2, sense := .above, threshold := 300, release := 300, qualifyCount := 1, releaseCount := 3
          action := .ceiling, ceiling := some (.curve 0), scope := .lane 0, latch := .self, report := .alert
          gated := true, scaled := false },
   some { source := 1, sense := .above, threshold := 500, release := 400, qualifyCount := 1, releaseCount := 1
          action := .arc, ceiling := none, scope := .zone 0, latch := .self, report := .quiet, gated := false
          scaled := false }]

/-- The foldback curve of section 5.2. -/
def foldback : Curve := [⟨300, 1000⟩, ⟨600, 700⟩, ⟨1200, 300⟩, ⟨2500, 100⟩]
/-- The budget curve of section 5.2. -/
def budgetCurve : Curve := [⟨750, 1000⟩, ⟨900, 700⟩, ⟨1000, 0⟩]

/-- A checked table set for one lane, one zone and one head. -/
def tables : TableSet :=
  { TableSet.empty with
    points := points ++ List.replicate 61 none
    heads := some { expectedId := none, mode := .spread, quadInput := 0, arcScope := .zone 0 } :: List.replicate 15 none
    curves := some foldback :: List.replicate 3 none
    rows := rows ++ List.replicate 45 none
    zonePlan := some { zone := 0, fromDefault := true } :: List.replicate 7 none
    lanePlan := some plan :: List.replicate 7 none }

/-- Lane 0 on the air at its target. -/
def onAir : Lane :=
  { Lane.initial with
    onRequest := true, state := .on, ceiling := 1000, demand := 2000, grant := 2000, budgetCeiling := 1000
    target := 40000, applied := 40000, firstTurnOnDone := true }

/-- In SERVICE on `tables`, locked, lane 0 as given; 25600 is the multiplier of 40000 (chapter 12). -/
def serving (v : Lane) : State :=
  { State.reset with
    link := .locked, phase := .service, activeSet := tables
    pointRecords := List.replicate 3 (some PointRecord.initial) ++ List.replicate 61 none
    rowRuntimes := List.replicate 3 (some RowRuntime.initial) ++ List.replicate 45 none
    lanes := v :: List.replicate 7 Lane.initial
    multipliers := (if v.applied = 40000 then 25600 else 0) :: List.replicate 7 0 }

/-- Lane 0 on the air. -/
def running : State := serving onAir
/-- Lane 0 in PROBE with its last evaluation next. -/
def probing : Lane := { onAir with state := .probe, target := 0, applied := 0, probeRemaining := 1 }
/-- Lane 0 in a silent state. -/
def silent (st : LaneState) : Lane := { onAir with state := st, target := 0, applied := 0 }
/-- `running` with zone 0 in a state. -/
def zoned (st : ZoneState) (remaining : Nat) (v : Lane) : State :=
  { serving v with
    zones := { state := st, blankRemaining := remaining, arcHistory := [5] } :: List.replicate 7 Zone.initial }
/-- `running` with an activation waiting at the head of the command queue. -/
def waitingAt (deferrals : Nat) (st : ZoneState) : State :=
  { zoned st 3 onAir with
    commands := [{ tag := 20, payload := payloadOf [3] }], waiting := some { tables, deferrals } }
/-- `running` with a sweep in flight. -/
def flying : State :=
  { running with sweepNumber := 301, inFlight := some { sweep := 301, tag := 13, chainLength := 1, slots := [.nop] } }

/-- A head of position 0 and what it measured. -/
def head0 : Head × Sampling :=
  ({ id := 7, mode := .spread, quadInput := 0, arcFlag := true },
    { r0 := 32768, r1 := 1311, r2 := 0xA5A5, r3 := 0x6001, overRange := 0, noise := false })

/-- The words that come back of the sweep in flight of `flying`. -/
def home : List Word := passChain [head0] ((sweepFrame 13 1 [.nop]).drop 1)

/-- A stale record: its check is bad. -/
def badRecord : HeadRecord := ⟨0x6000, 0, 0, 0, 0, 0⟩
/-- A fresh record of head 0. -/
def goodRecord : HeadRecord := head0.1.record head0.2

/-- A field of the state that an outcome leads to. -/
def field {α : Type} (o : Host.Outcome State Fault Refusal) (f : State → α) : Option α :=
  match o with
  | .next t => some (f t)
  | _ => none

/-! ### WellFormed refuses each ill-formed command -/

theorem test_wf_frame_length :
    (Instr.goodFrameAligned (.drive 0 false 0 0 [])).WellFormed = false ∧
    (Instr.driveFrame 0 false 0 0 (List.replicate 63 0)).WellFormed = false ∧
    (Instr.commandFrame false 0 (List.replicate 65 0)).WellFormed = false := by decide +kernel

theorem test_wf_during :
    (Instr.sweepTick [(.settling, .goodFrame (.command false 0 []))]).WellFormed = false ∧
    (Instr.sweepReturn [] [(.zoneStage, .goodFrame (.command false 0 []))]).WellFormed = false := by decide +kernel

theorem test_wf_loads :
    [Instr.loadPoint, .loadHead, .loadCurve, .loadCondition, .loadZonePlan, .loadLanePlan, .loadParameters].all
      (fun c => !(c 0 0 1 (List.replicate 61 0)).WellFormed && (c 0 0 1 (List.replicate 60 0)).WellFormed) = true := by
  decide +kernel

theorem test_wf_unknown :
    (Instr.unknown 0 7 []).WellFormed = false ∧ (Instr.unknown 0 9 []).WellFormed = true ∧
    (Instr.unknown 0 0 (List.replicate 64 0)).WellFormed = false := by decide +kernel

/-! ### The spec's worked figures -/

/-- The multiplier tables of R5 and R92. -/
theorem test_multipliers :
    [0, 1, 2000, 13980, 36000, 65536, 2200, 12000, 12200, 44000].map multiplierOf =
      [0, 128, 5724, 15134, 24286, 32768, 6003, 14021, 14138, 26849] := by decide +kernel

/-- The sample table of R6. -/
theorem test_samples :
    scaleSample 24286 20000 = 14823 ∧ scaleSample 24286 (-20000) = -14823 ∧ scaleSample 15134 10000 = 4619 ∧
    scaleSample 16384 1 = 1 ∧ scaleSample 16384 (-1) = 0 ∧ scaleSample 32768 32767 = 32767 ∧
    scaleSample 32768 0x8000 = 0x8000 ∧ scaleSample 0 0x8000 = 0 := by decide +kernel

/-- The conversion table of R42. -/
theorem test_conversions :
    convertRaw .fwd 32768 125 0 = 1000 ∧ convertRaw .fwd 65535 125 0 = 1999 ∧ convertRaw .ref 1200 125 (-40) = 0 ∧
    convertRaw .temp 6000 256 500 = 875 ∧ convertRaw .temp 64000 256 500 = 2500 ∧
    convertRaw .level 40000 4096 0 = 40000 ∧ convertRaw .flow 40000 0 300 = 300 := by decide +kernel

/-- The four QUAD folds of section 3.3. -/
theorem test_folds :
    [Fold.peak, .trough, .mean, .last].map (fun f => convertRaw .fwd (foldSamples f 31000 33500 32100 30400) 125 0) =
      [1022, 927, 968, 927] := by decide +kernel

/-- The ratio table of R44. -/
theorem test_ratios :
    returnRatio 1000 40 = 400 ∧ returnRatio 700 3 = 42 ∧ returnRatio 50 120 = 10000 ∧ returnRatio 310 12 = 387 := by
  decide +kernel

/-- The curve tables of section 5.2. -/
theorem test_curves :
    [0, 300, 450, 1000, 1199, 1200, 1201, 1500, 3000].map (curveValue foldback) =
      [1000, 1000, 850, 433, 300, 300, 299, 253, 100] ∧
    [150, 201, 350, 599, 700].map (curveValue [⟨200, 0⟩, ⟨600, 1000⟩, ⟨800, 1000⟩]) = [0, 2, 375, 997, 1000] ∧
    [875, 950, 999, 1000].map (curveValue budgetCurve) = [750, 350, 7, 0] := by decide +kernel

/-- The tables of R86 to R89. -/
theorem test_scales :
    budgetCeilingOf 1500 1000 1500 700 = 466 ∧ budgetCeilingOf 3 1250 3 2 = 666 ∧ demandOf 65535 1250 = 81918 ∧
    targetOf 30000 466 = 13980 ∧ targetOf 60000 1250 = 65536 ∧ targetOf 3 333 = 0 ∧ levelScale 65536 200 = 13107 ∧
    rampStep 100 5 = 1 ∧ rampStep 40000 5 = 200 := by decide +kernel

/-- A lane plan entry with a budget class. -/
def classed (c : BudgetClass) : Option LanePlan := some { plan with budgetClass := c }

/-- The two worked cases of section 8.3: three lanes, then six with a tie and a silent lane. -/
theorem test_apportion :
    (apportion { TableSet.empty with lanePlan := [classed (.strict 1), classed (.weighted 3), classed (.weighted 1)] }
      4500 750 [1800, 2000, 1500]).2 = [1800, 2000, 700] ∧
    (apportion { TableSet.empty with
        lanePlan := [classed (.strict 2), classed (.strict 1), classed (.weighted 2), classed (.weighted 5),
          classed (.weighted 2), classed (.weighted 3)] }
      4284 357 [1800, 1200, 1000, 3000, 0, 1500]).2 = [1800, 1200, 256, 643, 0, 385] := by decide +kernel

/-- The default zones of R120. -/
theorem test_default_zones :
    (List.range 6).map (defaultZone 6 4) = [0, 0, 1, 2, 2, 3] ∧ (List.range 5).map (defaultZone 5 2) = [0, 0, 0, 1, 1] := by
  decide +kernel

/-- Checks worked bit by bit from R179 outside Lean. -/
theorem test_crc : crc [] = 0xFFFF ∧ crc [0] = 0x1D0F ∧ crc [0x3132, 0x3334, 0x3536, 0x3738] = 0xA12B := by
  decide +kernel

/-- The pruning of section 7.3's example: 5000 leaves the window of 10000 at evaluation 15000. -/
theorem test_prune :
    pruneHistory 10000 15000 [5000, 9100, 14000] = [9100, 14000] ∧ pruneHistory 10000 14999 [5000] = [5000] := by
  decide +kernel

/-- The widths of the reply and notice layouts of section 11.4: every payload has 64 words. -/
theorem test_payload_words :
    (Notice.payload { subject := .headLost 3, state := .raised, value := .number 5, sweep := 0x10002, changes := 2 }).take 9 =
      [3, 19, 1, 0, 0, 5, 1, 2, 2] ∧
    ((Refused.one 24 0).payload.take 5 = [0xFFFF, 2, 1, 0, 0x100]) := by decide +kernel

/-! ### Single steps -/

/-- The kind of the frame that the return direction sends: the header. -/
def sentHeader (s : State) : Option Word := s.returnPort.map (·.header)

theorem test_tables_pass : validate State.reset.siteRecord tables = none := by decide +kernel

theorem test_mark_then_four_frames :
    field (exec .openingMarkFound State.reset) (·.link) = some .aligned ∧
    field (exec (.goodFrameAligned (.filler true)) { State.reset with link := .aligned, goodFrames := 3 })
      (fun t => (t.link, t.reportHold, t.linkStatistics.framesTaken)) = some (.locked, true, 1) := by decide +kernel

theorem test_missing_mark_mutes :
    field (exec .missingOpeningMark running) (fun t => ((t.lane 0).state, (t.lane 0).applied, t.multiplier 0)) =
      some (.muted, 0, 0) := by decide +kernel

theorem test_inhibit_mutes :
    field (exec .inhibitNAssert running) (fun t => ((t.lane 0).state, t.alertLow)) = some (.muted, true) := by
  decide +kernel

/-- A valid return (section 5.11, full chain: F = 1000, R = 40 gives 400 bp, curve 900, A = 36000), while lane 0's arc
flag takes its zone into BLANK. -/
theorem test_valid_return_blanks :
    field (exec (.sweepReturn home []) flying)
      (fun t => ((t.pointOrNone 2).value, t.zone 0, (t.lane 0).state, (t.lane 0).ceiling, t.multiplier 0)) =
        some (some 400, { state := .blank, blankRemaining := 20, arcHistory := [301] }, .blank, 900, 0) := by
  decide +kernel

/-- The full chain of section 5.11 without the arc: C = 900, D = g = 1800, T = A = 36000, m = 24286, ON. -/
theorem test_full_chain :
    field (exec (.sweepReturn (passChain [({ head0.1 with arcFlag := false }, head0.2)]
        ((sweepFrame 13 1 [.nop]).drop 1)) []) flying)
      (fun t => ((t.lane 0).ceiling, (t.lane 0).demand, (t.lane 0).target, (t.lane 0).applied, t.multiplier 0,
        (t.lane 0).state)) = some (900, 1800, 36000, 36000, 24286, .on) := by decide +kernel

/-- A tick with a sweep in flight: TIMEOUT, then the next launch (R26). -/
theorem test_tick_times_out :
    field (exec (.sweepTick []) flying)
      (fun t => (t.sweepNumber, t.lastEvaluation, t.sweepStatistics.timeouts, t.consecutiveFailures)) =
        some (302, 301, 1, 1) := by decide +kernel

/-- LANE on for an OFF lane that follows a low strap: PROBE with the probe length 10 (section 5.11). -/
theorem test_lane_on_probes :
    field (exec (.laneOn 1 0) (serving (silent .off)))
      (fun t => ((t.lane 0).state, (t.lane 0).probeRemaining, t.replies.map (·.result))) =
        some (.probe, 10, [.done]) := by decide +kernel

/-- A probe with no valid ratio fails: one retry, then LOCKOUT (R106). -/
theorem test_probe_fails :
    field (exec (.probeJudgement 0) (serving probing)) (fun t => ((t.lane 0).state, (t.lane 0).retriesUsed)) =
      some (.probe, 1) ∧
    field (exec (.probeJudgement 0) (serving { probing with retriesUsed := 1 })) (fun t => (t.lane 0).lockoutCause) =
      some .probe := by decide +kernel

/-- The setpoint is clamped (R97), and a command with no free place is refused (R167). -/
theorem test_setpoint_and_refusal :
    field (exec (.laneSetpoint 1 0 2000) running) (fun t => (t.lane 0).setpoint) = some 1250 ∧
    field (exec (.discard 9) { running with replies := List.replicate 4 ⟨0, 2, .done, .empty⟩ })
      (fun t => t.refusal) = some (some (Refused.one 9 4)) := by decide +kernel

/-- LOAD of a curve, READ of the pending entry, an UNKNOWN kind (R152, R165, R169). -/
theorem test_load_read_unknown :
    field (exec (.loadCurve 1 3 1 [2, 10, 0, 20, 1250]) State.reset) (fun t => t.pendingSet.curve 3) =
      some (some [⟨10, 0⟩, ⟨20, 1250⟩]) ∧
    field (exec (.readPendingEntry 1 4 2) State.reset) (fun t => t.replies.map (·.result)) = some [.range] ∧
    field (exec (.unknown 1 9 []) State.reset) (fun t => t.replies.map fun r => (r.kind, r.result)) =
      some [(9, .unknown)] := by decide +kernel

/-- A SITE with Z above L gets RANGE; a legal one is written (R161). -/
theorem test_site :
    field (exec (.site 1 1 2 1 10 3 50 0 6000) State.reset) (fun t => t.siteRecord) = some SiteRecord.default ∧
    field (exec (.site 1 3 2 1 10 3 50 0 6000) State.reset) (fun t => (t.siteRecord.lanes, t.siteRecord.siteMaximum)) =
      some (3, 6000) := by decide +kernel

/-- A notice goes out before a reply, and a reply before filler (R12). -/
theorem test_return_order :
    field (exec .returnFrameBoundary { running with
        notices := [conditionNotice .spuriousArc true .none 0], replies := [⟨0x33, 2, .done, .empty⟩] }) sentHeader =
      some (some 0x4000) ∧
    field (exec .returnFrameBoundary { running with replies := [⟨0x33, 2, .done, .empty⟩] }) sentHeader =
      some (some 0x8033) ∧
    field (exec .returnFrameBoundary running) sentHeader = some (some 0) := by decide +kernel

/-- Header bits 9..0 of a DRIVE frame are ignored and sent as 0 (R180, section 11.2). -/
theorem test_drive_header_bits :
    field (exec (.driveFrame 0 true 1023 9 []) running) (fun t => (t.holdingSlots.getD 0 none).map (·.header)) =
      some (some 0x4400) := by decide +kernel

/-- A READ of a lane with more mute causes than fit keeps the words before the list in their places (R119, section 11.4):
kind, result, plan defined, W = 2000. -/
theorem test_long_lane_read :
    (Reply.payload 0 ⟨1, 7, .done, .lane (some plan) onAir ((List.range 48).map .row)⟩).take 4 = [7, 0, 1, 2000] ∧
    (Reply.payload 0 ⟨1, 7, .done, .lane none onAir ((List.range 48).map .row)⟩).take 5 = [7, 0, 0, 3, 1] := by
  decide +kernel

/-- An event between two items of an evaluation queues its notice between theirs (R175). Row 1 asserts at RATIO 400. -/
theorem test_event_between_notices :
    field (exec (.sweepReturn home [(.judgedZone 0, .arcRise)]) { flying with arcLow := true, arcMasked := true })
      (fun t => t.notices.map (·.subject)) = some [.row 1, .zone 0, .arcLineStuck, .lane 0] ∧
    field (exec (.sweepReturn home [(.completedLane 0, .arcRise)]) { flying with arcLow := true, arcMasked := true })
      (fun t => t.notices.map (·.subject)) = some [.row 1, .zone 0, .lane 0, .arcLineStuck] := by decide +kernel

/-- A zone's entry into BLANK moves a MUTED member to BLANK in the fifth stage (R127): a return boundary before it sees a
lane MUTED in the site summary and one after it does not, and INHIBIT mutes the moved lane at once, with one notice (R110,
R116). Step 2 judges the lane as one in MUTED: the probe of its exit is owed (R82, R112). -/
theorem test_blank_entry_moves_a_muted_lane :
    let s : State := { flying with lanes := silent .muted :: List.replicate 7 Lane.initial }
    let muted (t : State) : Option Bool := t.returnPort.map fun f => f.word2.getLsbD 6
    field (exec (.sweepReturn home [(.blankingEnds, .returnBoundary)]) s) muted = some (some true) ∧
    field (exec (.sweepReturn home [(.arcsJudged, .returnBoundary)]) s) muted = some (some false) ∧
    field (exec (.sweepReturn home [(.arcsJudged, .inhibitFall)]) s)
        (fun t => ((t.lane 0).state, t.notices.map (·.subject))) =
      some (.muted, [.zone 0, .lane 0]) ∧
    field (exec (.sweepReturn home []) s) (fun t => ((t.lane 0).state, (t.lane 0).probeOwed)) = some (.blank, true) := by
  decide +kernel

/-- A lane in PROBE that a zone's entry into BLANK moves owes its probe, also when INHIBIT mutes it after the move (R107,
R127). -/
theorem test_blank_entry_owes_the_probe :
    let s : State := { flying with lanes := probing :: List.replicate 7 Lane.initial }
    let owed (t : State) : LaneState × Bool × Nat :=
      ((t.lane 0).state, (t.lane 0).probeOwed, (t.lane 0).probeRemaining)
    field (exec (.sweepReturn home []) s) owed = some (.blank, true, 0) ∧
    field (exec (.sweepReturn home [(.arcsJudged, .inhibitFall)]) s) owed = some (.muted, true, 0) := by decide +kernel

/-- The command behind an abandoned ACTIVATE is taken when no evaluation is in progress (R158, R168). -/
theorem test_abandon_frees_the_queue :
    field (exec .activationAbandon { waitingAt 1023 .blank with
        commands := [{ tag := 20, payload := payloadOf [3] }, { tag := 21, payload := payloadOf [9] }] })
      (fun t => (t.commands.length, t.replies.map (·.result))) = some (0, [.state, .unknown]) := by decide +kernel

/-! ### Witnesses: for each statement with hypotheses, a state and operands that meet them, clause by clause -/

theorem witness_StepRunsTheFrontCommand : State.reset.pending = [] := rfl

theorem witness_InResetNothingIsTaken :
    ({ State.reset with inReset := true } : State).inReset = true ∧ Instr.fillerFrame true ≠ .inhibitNAssert ∧
    Instr.fillerFrame true ≠ .inhibitNDeassert ∧ Instr.fillerFrame true ≠ .arcNFall ∧
    Instr.fillerFrame true ≠ .arcNRise ∧ Instr.fillerFrame true ≠ .resetNAssert ∧
    ∀ p, Instr.fillerFrame true ≠ .resetNRelease p := by
  refine ⟨rfl, ?_, ?_, ?_, ?_, ?_, ?_⟩ <;> simp

/-- `running` with a LANE off waiting to be sent. -/
def sending : State := { running with pending := [.laneOff 1 0] }

theorem witness_StepKeepsScalesSafe : sending.ScalesSafe ∧ ∃ t, step sending = .next t := by
  refine ⟨?_, _, rfl⟩
  simp only [State.ScalesSafe, State.laneSafe]
  decide +kernel

theorem witness_StepKeepsNoticesSound : sending.NoticesSound ∧ ∃ t, step sending = .next t := by
  refine ⟨?_, _, rfl⟩
  simp only [State.NoticesSound]
  decide +kernel

/-- A notice on a subject that is queued, one on a subject that is not, and one that finds 16 queued. -/
theorem witness_StepKeepsNoticesSound_queue :
    let n (k : Nat) : Notice := conditionNotice (.headLost k) true .none 0
    let full : State := { running with notices := (List.range 16).map n }
    (∃ m, m ∈ full.notices ∧ m.subject = (n 15).subject) ∧ (∀ m, m ∈ full.notices → m.subject ≠ (n 16).subject) ∧
    16 ≤ full.notices.length ∧ (∀ m, m ∈ full.notices.tail → m.subject ≠ (n 0).subject) ∧
    full.notices.tail.length < 16 := by decide +kernel

theorem witness_StepKeepsPlacesSound :
    (sending.PlacesSound ∧ ∃ t, step sending = .next t) ∧
    (let s : State := { State.reset with pending := [.openingMarkFound] }
     s.CountsBounded ∧ ∃ t, step s = .next t) := by
  refine ⟨⟨⟨by decide +kernel, by simp [sending, running, serving, State.reset]⟩, _, rfl⟩, ?_, _, rfl⟩
  simp only [State.CountsBounded]
  exact ⟨by decide, by decide, by decide, by decide, by decide, by decide, by decide, by decide, by decide, by decide,
    by decide, by simp [State.staleCount, State.reset], by simp [State.reset],
    by simp [State.rowRuntime, State.reset]⟩

theorem witness_StepKeepsPlanSound : sending.PlanSound ∧ ∃ t, step sending = .next t :=
  ⟨⟨by decide +kernel, by simp [sending, running, serving], fun _ => by decide +kernel,
    by simp [sending, running, serving, State.reset]⟩, _, rfl⟩

theorem witness_ServiceEndsOnlyByReset : running.phase = .service ∧ ∃ t, exec (.laneOff 1 0) running = .next t :=
  ⟨rfl, _, rfl⟩

theorem witness_DriveFrameIsScaledIntoItsSlot :
    running.inReset = false ∧ running.link = .locked ∧ (0#3).toNat < running.siteRecord.lanes ∧
    running.siteRecord.lanes ≤ (1#3).toNat := by decide +kernel

theorem witness_CommandFrameIsKeptOrRefused :
    let s : State := { waitingAt 0 .blank with replies := List.replicate 2 ⟨0, 2, .done, .empty⟩ }
    let r : State := { running with replies := List.replicate 4 ⟨0, 2, .done, .empty⟩ }
    (s.inReset = false ∧ s.link = .locked ∧ s.waiting.isSome ∧ s.commands.length + s.replies.length < 4) ∧
    (r.inReset = false ∧ r.link = .locked ∧ 4 ≤ r.commands.length + r.replies.length ∧ r.refusal = none) ∧
    { r with refusal := some (Refused.one 7 4) }.refusal = some (Refused.one 7 4) ∧
    (running.link = .locked ∧ running.Ready) ∧ ((0 : Word) = 0 ∧ 8 < (9 : Word).toNat) :=
  ⟨by decide +kernel, by decide +kernel, by decide +kernel, ⟨rfl, rfl, rfl, rfl, rfl, Nat.succ_pos 3⟩, by decide⟩

theorem witness_FourthGoodFrameLocksTheLink :
    State.reset.inReset = false ∧ State.reset.link = .search ∧
    (let s : State := { State.reset with link := .aligned, goodFrames := 2 }; s.link = .aligned ∧ s.goodFrames < 3) ∧
    (let s : State := { State.reset with link := .aligned, goodFrames := 3 }; s.link = .aligned ∧ s.goodFrames = 3) ∧
    running.link = .locked := by decide +kernel

/-- One frame of each kind, with the row of its kind. -/
theorem witness_FourthGoodFrameLocksTheLink_rows :
    (∃ lane hold low sequence samples, ForwardFrame.drive 7 true 1023 9 [] = .drive lane hold low sequence samples ∧
      Instr.driveFrame 7 true 1023 9 [] = .driveFrame lane hold low sequence samples) ∧
    (∃ hold tag payload, ForwardFrame.command true 255 [3] = .command hold tag payload ∧
      Instr.commandFrame true 255 [3] = .commandFrame hold tag payload) ∧
    ∃ hold, ForwardFrame.filler true = .filler hold ∧ Instr.fillerFrame true = .fillerFrame hold :=
  ⟨⟨_, _, _, _, _, rfl, rfl⟩, ⟨_, _, _, rfl, rfl⟩, _, rfl, rfl⟩

/-- A DRIVE frame that completes while the link is not LOCKED reaches no slot (R1). -/
theorem test_drive_not_taken_unlocked :
    field (exec (.driveFrame 0 true 0 9 []) { running with link := .aligned, goodFrames := 2 })
      (fun t => (t.goodFrames, t.holdingSlots.getD 0 none, t.reportHold)) = some (3, none, false) := by decide +kernel

theorem witness_LinkFollowsMarksAndChecks :
    running.inReset = false ∧ State.reset.link = .search ∧ running.link ≠ .search ∧
    { State.reset with link := LinkState.aligned }.link = .aligned ∧
    (let s : State := { running with badFrames := 6 }; s.link = .locked ∧ s.badFrames < 7) := by decide +kernel

theorem witness_LosingLockMutesTheLanes :
    let s : State := { running with badFrames := 7 }
    s.inReset = false ∧ s.link = .locked ∧ s.lanes.length = laneCount ∧ s.multipliers.length = laneCount ∧
    s.badFrames = 7 := by decide +kernel

/-- The one lane of `running` that an event mutes. -/
theorem witness_LanesMuted :
    List.Pairwise (· < ·) [0] ∧ ∀ l, l ∈ [0] ↔ l < laneCount ∧ running.Mutes l := by
  refine ⟨by simp, fun l => ⟨?_, fun ⟨h, hm⟩ => ?_⟩⟩
  · intro h
    obtain rfl : l = 0 := by simpa using h
    exact ⟨by decide, .inr (.inr (.inl rfl))⟩
  · have h8 : l < 8 := h
    revert hm
    simp only [State.Mutes]
    interval_cases l <;> decide +kernel

theorem witness_LanePortsSendAndEmptyTheirSlots : running.inReset = false := rfl

theorem witness_ReturnBoundarySendsTheFirstThatExists :
    let n : Notice := conditionNotice .spuriousArc true .none 0
    let q : Reply := ⟨0, 2, .done, .empty⟩
    let p : Snapshot := { sweep := 0, lanes := [] }
    running.inReset = false ∧ { running with notices := [n] }.notices = n :: [] ∧ running.notices = [] ∧
    (let s : State := { running with refusal := some (Refused.one 7 0), replies := [q] }
     s.notices = [] ∧ s.refusal = some (Refused.one 7 0) ∧ (Refused.one 7 0).ahead = 0) ∧
    (let s : State := { running with refusal := some (Refused.one 7 1), replies := [q] }
     s.notices = [] ∧ s.replies = q :: [] ∧ ∀ r, s.refusal = some r → 0 < r.ahead) ∧
    (running.replies = [] ∧ running.refusal = none ∧ running.snapshot = none) ∧
    (let s : State := { running with snapshot := some p }; s.snapshot = some p ∧ s.reportHold = false) ∧
    { running with reportHold := true }.reportHold = true ∧
    (Reply.mk 0 7 .done (.lane (some plan) onAir ((List.range 48).map .row))).data =
      .lane (some plan) onAir ((List.range 48).map .row) := by
  refine ⟨rfl, rfl, rfl, ⟨rfl, rfl, rfl⟩, ⟨rfl, rfl, ?_⟩, ⟨rfl, rfl, rfl⟩, ⟨rfl, rfl⟩, rfl, rfl⟩
  rintro r ⟨⟩
  decide

/-- A snapshot has eight lanes, and most data fit a payload (section 11.4). -/
theorem witness_ReturnBoundarySendsTheFirstThatExists_words :
    (Snapshot.mk 1 (List.replicate 8 (State.reset.snapshotLane 0))).lanes.length = 8 ∧
    (Reply.mk 0 7 .done (.sweepStatistics ⟨0, 0, 0, 0, 0, 0⟩)).data.words.length ≤ 62 := by decide +kernel

/-- The words of section 11.4: a lane's entry into LOCKOUT with cause PROBE at sweep 65537, lane 1's part of a snapshot with a
NO_VALUE ratio, and the refusal reply of tag 17. -/
theorem test_report_words :
    (laneNotice 3 { silent .lockout with lockoutCause := .probe, stateEntrySweep := 65537 }).payload.take 10 =
      [1, 3, 6, 0, 0, 2, 1, 1, 1, 0] ∧
    ((Snapshot.mk 65537 (List.replicate 8
      { state := .on, applied := 65536, forward := some ⟨some 50, .held⟩, ratio := some ⟨none, .noValue⟩ })).payload.drop
        9).take 7 = [3, 1, 0, 50, 2, 0xFFFF, 3] ∧
    (Refused.one 17 0).payload.take 6 = [0xFFFF, 2, 1, 0, 2, 0] := by decide +kernel

theorem witness_InhibitMutesAndReleases :
    running.inReset = false ∧ running.lanes.length = laneCount ∧ running.multipliers.length = laneCount ∧
    running.forceInhibit = false ∧ { running with forceInhibit := true }.forceInhibit = true := by decide +kernel

theorem witness_ArcLineFallsAndRises :
    running.inReset = false ∧ running.arcMasked = false ∧ running.forceArcLine = false ∧
    { running with forceArcLine := true }.forceArcLine = true ∧ { running with arcMasked := true }.arcMasked = true := by
  decide +kernel

theorem witness_ScaledSampleStaysWithinTheInput : (0 : Nat) ≤ 32768 ∧ (32768 : Nat) ≤ 32768 := by decide

theorem witness_MultiplierIsTheIntegerSquareRoot : (65536 : Nat) ≤ 65536 ∧ (13980 : Nat) ≤ 30000 := by decide

theorem witness_ForwardFrameIsReceivedAsSent :
    (ForwardFrame.drive 7 true 1023 9 (List.replicate 64 0x8000)).WellFormed = true ∧
    (ForwardFrame.command true 255 (payloadOf [3])).WellFormed = true := by decide +kernel

theorem witness_SweepReturnOfAWholeChainIsValid :
    (let hs := [head0]; 1 ≤ hs.length ∧ hs.length ≤ 16 ∧ [Slot.nop].length = hs.length) ∧
    (let hs := List.replicate 16 head0
     1 ≤ hs.length ∧ hs.length ≤ 16 ∧ (List.replicate 16 (Slot.setMode .quad 3)).length = hs.length) := by decide +kernel

/-- Fields that each LOAD accepts, and the fields of the defaults given as all ones. -/
theorem witness_LoadedEntriesReadBackInTheirCoding :
    (parsePoint [5, 2, 0, 15, 3, 3, 0xFFFF, 0x8000]).isSome ∧ (parsePoint [2, 1, 7, 63, 0]).isSome ∧
    (parseHead [16, 0, 3, 3, 0]).isSome ∧ (parseCurve [2, 0, 0, 0xFFFF, 1250]).isSome ∧
    (parseRow [63, 1, 5, 9, 255, 1, 1, 1, 3, 0, 7, 1, 1, 0, 0]).isSome ∧ (parseZone [7]).isSome ∧
    (parseLanePlan [0xFFFF, 1, 0, 0xFFFF, 1, 127, 0xFFFF, 0xFFFF, 0xFFFF]).isSome ∧
    (parseParameters (List.replicate 14 0xFFFF)).isSome ∧ (parseSite [8, 8, 16, 100, 15, 200, 15, 16960]).isSome := by
  decide +kernel

/-- Entries at the bounds of their ranges, one of each part; the words that spell them are those of the witness above. -/
theorem witness_LoadedEntriesReadBackInTheirCoding_ranges :
    PointEntry.InRange ⟨.level, .site, .head 15 3 .last 65535 (-32768)⟩ ∧
    PointEntry.InRange ⟨.ratio, .zone 7, .ratio 63 0⟩ ∧ HeadEntry.InRange ⟨some 15, .quad, 3, .zone 7⟩ ∧
    HeadEntry.InRange ⟨none, .spread, 0, .none⟩ ∧ Curve.InRange [⟨0, 0⟩, ⟨65535, 1250⟩] ∧
    RowEntry.InRange ⟨63, .below, 5, 9, 255, 1, .ceiling, some (.curve 3), .lane 7, .latch, .quiet, true, true⟩ ∧
    ZoneEntry.InRange ⟨7, false⟩ ∧ LanePlan.InRange ⟨65535, 65536, some 63, .weighted 127, 1000, 1, .afterFault⟩ ∧
    Parameters.InRange Parameters.default ∧ Parameters.default.arcWindow ≠ 65535 ∧
    Parameters.default.snapshotInterval ≠ 65535 := by
  refine ⟨?_, ?_, ?_, ?_, ?_, ?_, ?_, ?_, ?_, by decide, by decide⟩ <;>
    simp [PointEntry.InRange, HeadEntry.InRange, Curve.InRange, RowEntry.InRange, ZoneEntry.InRange, LanePlan.InRange,
      Parameters.InRange, Scope.InRange, Parameters.default]

/-- Fields given as all ones spell the default, and other fields themselves. -/
theorem witness_LoadsWriteThePendingSet_spelling :
    Spells [5, 2, 0, 15, 3, 3, 0xFFFF, 0x8000] (PointEntry.words ⟨.level, .site, .head 15 3 .last 65535 (-32768)⟩) ∧
    SpellsWithDefaults 6 [500, 5, 0] [2000, 0, 40000, 2, 0, 1, 0xFFFF, 5, 0xFFFF] plan.words ∧
    (HeadEntry.words ⟨none, .spread, 0, .none⟩).length = 5 ∧ (3 : Word).toNat ≤ 3 := by
  refine ⟨?_, ?_, by decide, by decide⟩
  · unfold Spells
    decide +kernel
  · unfold SpellsWithDefaults
    decide +kernel

theorem witness_TickLaunchesASweep :
    State.reset.inReset = false ∧ State.reset.evaluation = none ∧ State.reset.inFlight = none := by decide +kernel

theorem witness_SlotCommandsTheEntrysMode :
    (0 < running.siteRecord.heads) ∧ running.activeSet.head 1 = none ∧ (running.activeSet.head 0).isSome ∧
    running.reportedMode 0 = none ∧
    (let s : State := { running with reportedModes := [some ⟨.quad, 1⟩] }; s.reportedMode 0 = some ⟨.quad, 1⟩ ∧
      (s.activeSet.head 0).map (·.mode) = some .spread) ∧
    (let s : State := { running with
        reportedModes := [some ⟨.quad, 1⟩], activeSet := { tables with heads := [some ⟨none, .quad, 2, .none⟩] } }
     (s.activeSet.head 0).map (·.mode) = some .quad ∧ s.reportedMode 0 = some ⟨.quad, 1⟩) := by decide +kernel

theorem witness_TickTimesOutTheSweepInFlight :
    flying.inReset = false ∧ flying.evaluation = none ∧ flying.inFlight.isSome ∧ flying.commands = [] := by
  decide +kernel

/-- `flying` with a blanked zone and an ACTIVATE that waits with `deferrals`, a DISCARD behind it. -/
def flyingHeld (deferrals : Nat) : State :=
  { waitingAt deferrals .blank with
    sweepNumber := 301, inFlight := flying.inFlight
    commands := [{ tag := 20, payload := payloadOf [3] }, { tag := 21, payload := payloadOf [2] }] }

/-- Behind an activation that still waits the commands stay held; one that is abandoned lets the DISCARD be taken (R158, R168). -/
theorem witness_TickTimesOutTheSweepInFlight_held :
    (flyingHeld 3).inReset = false ∧ (flyingHeld 3).evaluation = none ∧ (flyingHeld 3).inFlight.isSome ∧
    field (exec (.sweepTick []) (flyingHeld 3)) (fun t => (t.waiting.map (·.deferrals), t.commands.length, t.replies.length)) =
      some (some 4, 2, 0) ∧
    field (exec (.sweepTick []) (flyingHeld 1023)) (fun t => (t.waiting.isSome, t.commands, t.replies.map (·.kind))) =
      some (false, [], [3, 2]) := by decide +kernel

theorem witness_LateReturnOnlyCounts :
    running.inReset = false ∧ running.inFlight = none ∧ flying.inFlight.isSome ∧
    (readReturn ((sweepFrame 12 1 [.nop]).drop 1)).any
      (fun r => r.checkGood && r.headerA.extractLsb' 4 4 != (13 : BitVec 4)) = true := by decide +kernel

theorem witness_ReturnClosesTheSweep :
    flying.inReset = false ∧
    flying.inFlight = some { sweep := 301, tag := 13, chainLength := 1, slots := [.nop] } ∧
    judgeReturn { sweep := 301, tag := 13, chainLength := 1, slots := [.nop] } home = .valid [goodRecord] ∧
    judgeReturn { sweep := 301, tag := 13, chainLength := 1, slots := [.nop] } [] = .frameCheck ∧
    judgeReturn { sweep := 301, tag := 13, chainLength := 1, slots := [.nop] } ((sweepFrame 13 2 [.nop, .nop]).drop 1) =
      .headerMismatch ∧
    judgeReturn { sweep := 301, tag := 13, chainLength := 1, slots := [.nop] } ((sweepFrame 13 1 [.nop]).drop 1) =
      .countMismatch := by decide +kernel

/-- An event after the last stage does what its own row does then (R27). -/
theorem test_event_after_the_last_stage :
    field (exec (.sweepReturn home [(.snapshotCount, .inhibitFall)]) flying) (fun t => (t.lane 0, t.notices.length)) =
      field (exec (.sweepReturn home []) flying) (fun u => (u.inhibitFall.lane 0, u.inhibitFall.notices.length)) := by
  decide +kernel

theorem witness_FailureCountRaisesAndReleasesBlindness :
    (let s : State := { running with consecutiveFailures := 2 }
     s.senseBlind = false ∧ s.siteRecord.failLimit ≤ min 65535 (s.consecutiveFailures + 1) ∧ s.notices = []) ∧
    min 65535 (running.consecutiveFailures + 1) < running.siteRecord.failLimit ∧
    { running with senseBlind := true }.senseBlind = true := by decide +kernel

/-- A valid sweep that releases SENSE_BLIND, raises HEAD_LOST(0) and releases HEAD_LOST(3); the last valid sweep changes no
HEAD_LOST. -/
def losing : State :=
  { running with
    senseBlind := true, headLost := (List.replicate 16 false).set 3 true, staleCounts := List.replicate 16 4 }

theorem witness_HeadLostFollowsTheStaleCounts_notices :
    let t := (classify 9 (some [badRecord]) losing).1
    [0, 3].Pairwise (· < ·) ∧ losing.headLost.length = headCount ∧ losing.staleCounts.length = headCount ∧
    (∀ j, j < headCount → (j ∈ [0, 3] ↔ t.isHeadLost j ≠ losing.isHeadLost j)) ∧
    (∀ j, j ∈ [0, 3] → j < headCount) ∧
    t.notices.map (fun n => (n.subject, n.state, n.value)) =
      [(.senseBlind, .released, .number 0), (.headLost 0, .raised, .number 5), (.headLost 3, .released, .number 0)] ∧
    (∀ k, k < headCount → (classify 9 (some [goodRecord]) running).1.isHeadLost k = running.isHeadLost k) ∧
    running.headLost.length = headCount ∧ running.senseBlind = false := by decide +kernel

theorem witness_HeadLostFollowsTheStaleCounts :
    running.staleCounts.length = headCount ∧ running.headLost.length = headCount ∧ 0 < headCount ∧ 15 < headCount ∧
    recordStale (running.activeSet.head 0) badRecord = true ∧
    recordStale (running.activeSet.head 0) goodRecord = false ∧ [goodRecord][15]? = none ∧
    running.reportedModes.length = headCount ∧ goodRecord.checkGood = true ∧ badRecord.checkGood = false := by
  decide +kernel

theorem witness_FailedSweepLeavesPointsStale :
    let failed : Classified := { sweep := 1, valid := false, fresh := [] }
    let partly : Classified := { sweep := 1, valid := true, fresh := [none, some goodRecord] }
    failed.record 0 = none ∧ partly.record 0 = none ∧ partly.record 1 = some goodRecord ∧
    running.pointRecord 0 = some PointRecord.initial ∧ running.pointRecord 2 = some PointRecord.initial ∧
    (running.activeSet.point 0).map (·.source) = some (.head 0 0 .last 125 0) ∧
    (running.activeSet.point 2).map (·.source) = some (.ratio 0 1) := by decide +kernel

/-- A record of head 0 in QUAD on input 1, with samples 31000, 33500, 32100 and 30400 (section 3.3). -/
def quadRecord : HeadRecord :=
  Head.record { id := 7, mode := .quad, quadInput := 1, arcFlag := false }
    { r0 := 31000, r1 := 33500, r2 := 32100, r3 := 30400, overRange := 0, noise := true }

theorem witness_FailedSweepLeavesPointsStale_fresh :
    let c : Classified := { sweep := 1, valid := true, fresh := [some goodRecord] }
    (running.activeSet.point 0).map (·.source) = some (.head 0 0 .last 125 0) ∧
    running.pointRecord 0 = some PointRecord.initial ∧ c.record 0 = some goodRecord ∧
    goodRecord.mode = .spread ∧ goodRecord.reading 0 = 32768 ∧ goodRecord.overFlag 0 = false ∧
    quadRecord.mode = .quad ∧ quadRecord.quadInput = 1 ∧ quadRecord.reading 3 = 30400 ∧ quadRecord.quadInput ≠ 0 := by
  decide +kernel

theorem witness_RatioIsComputedHeldOrStale :
    let p : PointRecord := { state := .valid, value := some 50, overRange := false, noisy := false }
    p.state = .valid ∧ p.value = some 50 ∧ (50 : Nat) ≤ 50 ∧ (49 : Nat) < 50 ∧
    PointRecord.initial.state ≠ .valid ∧ PointRecord.initial.value = none ∧
    (running.activeSet.point 2).map (·.source) = some (.ratio 0 1) ∧ (running.pointRecord 2).isSome ∧
    (running.activeSet.point 0).map (·.source) = some (.head 0 0 .last 125 0) ∧
    (running.activeSet.point 1).map (·.source) = some (.head 0 1 .last 125 0) := by decide +kernel

theorem witness_FrozenRowKeepsItsRuntime :
    (running.activeSet.row 0).isSome ∧ running.rowRuntime 0 = some RowRuntime.initial ∧
    (running.pointOrNone 2).state ≠ .valid ∧
    (let s : State := { running with pointRecords := List.replicate 3 (some ⟨.valid, some 9, false, true⟩) }
     (s.pointOrNone 2).noisy = true) ∧ running.activeSet.row 47 = none ∧
    ∀ d, tables.row 1 = some d → ¬ (serving (silent .off)).GatingHolds d := by
  refine ⟨by decide +kernel, by decide +kernel, by decide +kernel, by decide +kernel, by decide +kernel, ?_⟩
  rintro d ⟨⟩
  simp [State.GatingHolds, State.lane, serving, silent]

/-- A gated and scaled row of lane 0's forward power. -/
def scaledRow (report : Report) (scope : Scope) (scaled : Bool) : RowEntry :=
  { source := 0, sense := .above, threshold := 1100, release := 1050, qualifyCount := 1, releaseCount := 1
    action := .arc, ceiling := none, scope, latch := .self, report, gated := true, scaled }

/-- Lane 0 ON in REDUCED at reduced level 500, its forward power at `v`, and one row. -/
def advancing (v : Nat) (d : RowEntry) (q : RowRuntime) : State :=
  { serving { onAir with mode := .reduced } with
    activeSet := { tables with rows := [some d] }, rowRuntimes := [some q]
    pointRecords := [some ⟨.valid, some v, true, false⟩] }

/-- R59's scaled example at reduced level 500: 1100 and 1050 compare as 550 and 525. The same row unscaled over the zone, and
the gating of each scope. -/
theorem witness_FrozenRowKeepsItsRuntime_advance :
    (advancing 551 (scaledRow .alert (.lane 0) true) .initial).Advances (scaledRow .alert (.lane 0) true) 551 .crossing ∧
    (advancing 550 (scaledRow .alert (.lane 0) true) .initial).Advances (scaledRow .alert (.lane 0) true) 550 .neither ∧
    (advancing 524 (scaledRow .quiet (.lane 0) true) .initial).Advances (scaledRow .quiet (.lane 0) true) 524 .release ∧
    (advancing 551 (scaledRow .alert (.zone 0) false) .initial).Advances (scaledRow .alert (.zone 0) false) 551 .release ∧
    (advancing 551 (scaledRow .alert .site false) .initial).GatingHolds (scaledRow .alert .site false) := by
  refine ⟨⟨rfl, rfl, rfl, .inr rfl, 550, 525, .inl ⟨500, ⟨rfl, 0, _, _, rfl, rfl, .inl rfl, rfl, rfl, rfl⟩, rfl, rfl⟩, ?_⟩,
    ⟨rfl, rfl, rfl, .inr rfl, 550, 525, .inl ⟨500, ⟨rfl, 0, _, _, rfl, rfl, .inl rfl, rfl, rfl, rfl⟩, rfl, rfl⟩, ?_⟩,
    ⟨rfl, rfl, rfl, .inr rfl, 550, 525, .inl ⟨500, ⟨rfl, 0, _, _, rfl, rfl, .inl rfl, rfl, rfl, rfl⟩, rfl, rfl⟩, ?_⟩,
    ⟨rfl, rfl, rfl, .inr ⟨?_, 0, ?_, rfl, rfl⟩, 1100, 1050, .inr ⟨?_, rfl, rfl⟩, ?_⟩, .inr ⟨?_, 0, ?_, rfl⟩⟩
  all_goals try decide
  exact fun _ h => Bool.noConfusion h.1

/-- Row 0 of `tables` with other counts. -/
def counted (q r : Nat) : RowEntry :=
  { source := 2, sense := .above, threshold := 2000, release := 1500, qualifyCount := q, releaseCount := r
    action := .mute, ceiling := none, scope := .lane 0, latch := .latch, report := .alert, gated := false
    scaled := false }

theorem witness_RowMovesByItsCounts :
    1 ≤ (counted 255 1).qualifyCount ∧ 254 < (counted 255 1).qualifyCount ∧ 255 = (counted 255 1).qualifyCount ∧
    1 ≤ (counted 1 255).releaseCount ∧ 254 < (counted 1 255).releaseCount ∧ 255 = (counted 1 255).releaseCount ∧
    (phaseStep (counted 2 2) .idle 0 .crossing).2.2 ≠ .asserted ∧ Outcome.neither ≠ .crossing ∧
    Outcome.neither ≠ .release ∧
    (let d := { counted 1 1 with action := .ceiling, ceiling := some (.fixed 0) }
     d.ceiling = some (.fixed 0) ∧ (advanceRow tables 1 d RowRuntime.initial 9 .crossing).1.phase = .asserted) ∧
    (let d := { counted 1 1 with action := .ceiling, ceiling := some (.curve 0) }
     let q : RowRuntime := { RowRuntime.initial with phase := .asserted, latched := true }
     d.ceiling = some (.curve 0) ∧ tables.curve 0 = some foldback ∧
     (advanceRow tables 1 d q 9 .neither).1.phase = .asserted ∧ (advanceRow tables 1 d q 9 .release).1.phase = .idle ∧
     (advanceRow tables 1 d q 9 .release).1.latched = true) ∧
    (let d := { counted 2 2 with action := .ceiling, ceiling := some (.curve 0) }
     let q : RowRuntime := { RowRuntime.initial with latched := true, ceilingInForce := some 400 }
     let w := (advanceRow tables 1 d q 900 .crossing).1
     w.phase = .pending ∧ w.latched = true ∧ w.ceilingInForce = some 400) := by decide +kernel

theorem witness_AssertionRecordsItself :
    (phaseStep (counted 2 2) .pending 1 .crossing).2.2 = .asserted ∧
    (phaseStep (counted 1 1) .idle 0 .crossing).2.2 = .asserted ∧
    (tables.row 1).bind (·.ceiling) = some (.curve 0) ∧ tables.curve 0 = some foldback := by decide +kernel

theorem witness_CurveInterpolatesWithinItsBreakpoints :
    2 ≤ foldback.length ∧ foldback.Pairwise (fun p q => p.x < q.x) ∧ foldback.head? = some ⟨300, 1000⟩ ∧
    foldback.getLast? = some ⟨2500, 100⟩ ∧ foldback[0]? = some ⟨300, 1000⟩ ∧ foldback[1]? = some ⟨600, 700⟩ ∧
    (300 : Nat) ≤ 300 ∧ (599 : Nat) < 600 := by decide

theorem witness_ArcIsJudgedByTheZonesState :
    let kept := (running.zone 0).arcHistory.filter fun e => decide ((1 - e : SweepNo).toNat < 10000)
    0 < running.zones.length ∧ 0 ∈ [0] ∧ (running.zone 0).state = .normal ∧
    kept.length + 1 < running.activeSet.parameters.arcLimit ∧
    (let s : State := { running with zones := [{ state := .normal, blankRemaining := 0, arcHistory := [1, 2, 3] }] }
     s.activeSet.parameters.arcLimit ≤
       ((s.zone 0).arcHistory.filter fun e => decide ((9 - e : SweepNo).toNat < 10000)).length + 1) ∧
    0 ∉ ([] : List Nat) ∧ ((zoned .blank 3 onAir).zone 0).state ≠ .normal ∧ goodRecord.arcFlag = true ∧
    (running.activeSet.head 0).map (·.arcScope) = some (.zone 0) ∧ 0 < running.lanes.length ∧
    0 < running.siteRecord.lanes ∧ running.activeSet.zoneOf 0 = some 0 ∧ (running.lane 0).state = .on := by decide +kernel

/-- An ASSERTED ALERT ARC row of lane 0 is returned by a blank entry of zone 0 and owes the one release notice; it asserts at a
crossing, and its scope reaches the zone. -/
theorem witness_ArcIsJudgedByTheZonesState_rows :
    let d := scaledRow .alert (.lane 0) true
    let q : RowRuntime := { RowRuntime.initial with phase := .asserted }
    let s := advancing 551 d q
    s.ReturnsRow 0 0 ∧ s.rowRuntime 0 = some q ∧ ¬ s.ReturnsRow 0 1 ∧
    (([(0, false, some 551)] : List (Nat × Bool × Option Nat)).map (·.1)).Pairwise (· < ·) ∧
    (∀ r b v, (r, b, v) ∈ [(0, false, some 551)] ↔ s.OwesReturnNotice 0 r b v) ∧
    (phaseStep d .idle 0 .crossing).2.2 = .asserted ∧ d.scope.ReachesZone s.activeSet 0 := by
  intro d q s
  have returns : s.ReturnsRow 0 0 := ⟨by decide, d, rfl, rfl, .inr ⟨0, rfl, by decide, rfl⟩⟩
  have alone : ∀ r, s.ReturnsRow 0 r → r = 0 := by
    rintro (_ | r) ⟨_, e, h, _⟩
    · rfl
    · simp [s, advancing, TableSet.row] at h
  refine ⟨returns, rfl, fun h => absurd (alone 1 h) (by decide), by simp, fun r b v => ⟨?_, ?_⟩, by decide,
    .inl ⟨0, rfl, rfl⟩⟩
  · intro h
    obtain ⟨rfl, rfl, rfl⟩ : r = 0 ∧ b = false ∧ v = some 551 := by simpa using h
    exact ⟨returns, d, q, rfl, rfl, rfl, .inl rfl, rfl, rfl⟩
  · rintro ⟨h, e, x, he, hx, _, _, hb, hv⟩
    obtain rfl := alone r h
    cases he
    cases hx
    subst hb hv
    simp [s, advancing, d, scaledRow, q, RowRuntime.initial, State.pointOrNone, State.pointRecord]

/-- Zone 0 at the last evaluation of its blanking, and one before it. -/
theorem witness_BlankingEndRestrikesTheBlankLanes_step :
    let s := zoned .blank 1 (silent .blank)
    s.siteRecord.zones ≤ s.zones.length ∧ (s.zone 0).state = .blank ∧ (s.zone 0).blankRemaining = 1 ∧
    (s.lane 0).state = .blank ∧ 0 < s.siteRecord.lanes ∧ s.activeSet.zoneOf 0 = some 0 ∧
    (∀ z, z < s.siteRecord.zones → (s.zone z).state = .blank → 1 ≤ (s.zone z).blankRemaining) ∧
    2 ≤ ((zoned .blank 2 onAir).zone 0).blankRemaining ∧
    ∀ z, z ∈ [0] ↔ z < s.siteRecord.zones ∧ (s.zone z).state = .blank ∧ (s.zone z).blankRemaining = 1 := by
  intro s
  refine ⟨by decide, rfl, rfl, rfl, by decide, rfl, ?_, by decide, fun z => ⟨?_, ?_⟩⟩
  · intro z h _
    obtain rfl : z = 0 := Nat.lt_one_iff.mp h
    decide
  · intro h
    obtain rfl : z = 0 := by simpa using h
    exact ⟨by decide, rfl, rfl⟩
  · rintro ⟨h, _⟩
    simpa using Nat.lt_one_iff.mp h

/-- The lane that leaves BLANK with zone 0. -/
theorem witness_BlankingEndRestrikesTheBlankLanes_left :
    let s := zoned .blank 1 (silent .blank)
    ∀ l, l < laneCount → (l ∈ [0] ↔ l < s.siteRecord.lanes ∧ s.activeSet.zoneOf l = some 0 ∧ (s.lane l).state = .blank) := by
  decide +kernel

theorem witness_BlankingEndRestrikesTheBlankLanes :
    let s := zoned .blank 1 (silent .blank)
    s.inReset = false ∧ s.zones.length = zoneCount ∧ s.lanes.length = laneCount ∧ s.siteRecord.lanes ≤ laneCount ∧
    (0#3).toNat < s.siteRecord.zones ∧ (s.zone 0).state = .blank ∧ (s.zone 0).blankRemaining = 1 ∧
    2 ≤ ((zoned .blank 2 (silent .blank)).zone 0).blankRemaining ∧ (running.zone 0).state ≠ .blank := by decide +kernel

theorem witness_CompletionRemovesTheArcLine_resolution :
    let c : Classified := { sweep := 7, valid := true, fresh := [some goodRecord] }
    let s : State := { running with arcLow := true, forceArcLine := true, resolvingSweep := 7 }
    (s.forceArcLine = true ∧ c.valid = true ∧ (c.sweep - s.resolvingSweep).toNat < 2147483648 ∧ s.notices = []) ∧
    { s with arcLow := false }.arcLow = false ∧ s.headArcZones c = [0] ∧ running.forceArcLine = false ∧
    ¬ (c.sweep - (8 : SweepNo)).toNat < 2147483648 := by decide +kernel

theorem witness_CompletionRemovesTheArcLine :
    let e : EvalProgress := { removalDecided := true, startStates := [], mutedSince := [], movedFrom := [] }
    let s : State := { running with evaluation := some e, arcLow := true, forceArcLine := true }
    running.inReset = false ∧ running.evaluation = none ∧ s.evaluation = some e ∧ s.commands = [] ∧
    e.removalDecided = true ∧ { e with removalDecided := false }.removalDecided = false ∧ s.arcLow = true ∧
    s.arcMasked = false ∧ running.arcLow = false ∧ { s with arcMasked := true }.arcMasked = true := by decide +kernel

/-- Commands held at a completion: one is taken then, and behind a waiting activation they stay. -/
theorem witness_CompletionRemovesTheArcLine_held :
    let e : EvalProgress := { removalDecided := false, startStates := [], mutedSince := [], movedFrom := [] }
    let d : QueuedCommand := { tag := 21, payload := payloadOf [9] }
    let s : State := { running with evaluation := some e, commands := [d] }
    s.waiting = none ∧ s.commands = [d] ∧ s.replies.length < 4 ∧ 8 < (d.payload.getD 0 0).toNat ∧
    (payloadOf []).getD 0 0 = 0 ∧ ({ waitingAt 3 .blank with evaluation := some e } : State).waiting.isSome = true ∧
    field (exec .evaluationComplete s) (fun t => (t.commands.length, t.replies.map (·.result))) = some (0, [.unknown]) ∧
    field (exec .evaluationComplete { waitingAt 3 .blank with evaluation := some e }) (fun t => t.commands.length) =
      some 1 := by decide +kernel

theorem witness_LaneSettlesByPrecedence :
    let x : Situation :=
      { zoneLockout := false, zoneBlank := false, muted := false, latchedMute := false, policyProbes := false
        rules := ⟨10, 1000, 1⟩, passed := true }
    { x with zoneLockout := true }.zoneLockout = true ∧ x.zoneLockout = false ∧ Lane.initial.onRequest = false ∧
    onAir.onRequest = true ∧ (silent .lockout).state = .lockout ∧
    { silent .lockout with lockoutCause := .probe }.lockoutCause = .probe ∧ onAir.state ≠ .lockout ∧
    { x with muted := true }.muted = true ∧ x.muted = false ∧ { x with zoneBlank := true }.zoneBlank = true ∧
    x.zoneBlank = false ∧ { x with policyProbes := true }.policyProbes = true ∧ (silent .muted).state = .muted ∧
    { silent .ramp with restriking := true, probeOwed := true }.restriking = true ∧ probing.state = .probe ∧
    probing.restriking = false ∧ (silent .muted).probeOwed = false ∧ onAir.state = .on ∧
    onAir.restriking = false ∧ running.activeSet.plan 0 = some plan ∧ 0 < running.lanes.length ∧
    2 ≤ { probing with probeRemaining := 2 }.probeRemaining ∧ probing.probeRemaining = 1 ∧ x.passed = true ∧
    { x with passed := false }.passed = false ∧ probing.retriesUsed + 1 ≤ x.rules.retries ∧
    x.rules.retries < { probing with retriesUsed := 1 }.retriesUsed + 1 := by decide +kernel

/-- A lane below L settles, one at or above L does not; a probing lane enters no probe, and neither does one that runs. -/
theorem witness_LaneSettlesByPrecedence_stage :
    0 < running.siteRecord.lanes ∧ 0 < running.lanes.length ∧ running.siteRecord.lanes ≤ 1 ∧
    (∀ pp : Bool,
      ¬ ((probing.state = .muted ∧ (pp = true ∨ probing.probeOwed = true)) ∨
        (probing.restriking = true ∧ probing.probeOwed = true))) ∧
    (∀ pp : Bool,
      ¬ ((onAir.state = .muted ∧ (pp = true ∨ onAir.probeOwed = true)) ∨
        (onAir.restriking = true ∧ onAir.probeOwed = true))) ∧ onAir.state ≠ .probe := by decide +kernel

/-- A probe abandoned into MUTED is owed, has nothing remaining and keeps its retries used (R107). -/
theorem test_abandoned_probe :
    let x : Situation :=
      { zoneLockout := false, zoneBlank := true, muted := true, latchedMute := true, policyProbes := false
        rules := ⟨10, 1000, 1⟩, passed := true }
    ({ probing with probeRemaining := 7, retriesUsed := 1 }.settle x).1 =
      { probing with
        state := .muted, probeRemaining := 0, retriesUsed := 1, probeOwed := true, muteInvolvedLatch := true } := by
  decide +kernel

theorem witness_ProbeIsJudgedAtItsLastEvaluation :
    let s := serving probing
    let good : State := { s with pointRecords := List.replicate 3 (some ⟨.valid, some 1000, false, false⟩) }
    s.inReset = false ∧ s.lanes.length = laneCount ∧ (0#3).toNat < s.siteRecord.lanes ∧
    (s.lane 0).state = .probe ∧ (s.lane 0).probeRemaining = 1 ∧
    ((s.activeSet.plan 0).bind (·.ratioPoint) = some 2 ∧ (s.pointOrNone 2).state ≠ .valid) ∧
    ((good.pointOrNone 2).state = .valid ∧ (good.pointOrNone 2).value = some 1000 ∧
      1000 ≤ good.activeSet.parameters.probeRatioLimit) ∧
    (s.lane 0).retriesUsed + 1 ≤ s.activeSet.parameters.probeRetries ∧
    s.activeSet.parameters.probeRetries < { probing with retriesUsed := 1 }.retriesUsed + 1 ∧
    (running.lane 0).state ≠ .probe ∧ 2 ≤ { probing with probeRemaining := 2 }.probeRemaining := by decide +kernel

theorem witness_LaneTakesItsScalesAtCompletion :
    0 < running.lanes.length ∧ 0 < running.multipliers.length ∧ running.evaluation = none ∧
    running.activeSet.plan 0 = some plan ∧ [Settled.running true].getD 0 .silent = .running true ∧ 1 ≠ 0 := by
  decide +kernel

/-- Lane 0 MUTED at step 7, with or without an event since step 2, when the evaluation began with it ON. -/
def completing (event : Bool) : State :=
  { serving (silent .muted) with
    evaluation := some { removalDecided := false, startStates := [.on], mutedSince := [event], movedFrom := [none] } }

theorem witness_LaneTakesItsScalesAtCompletion_muted :
    (∃ e, (completing true).evaluation = some e ∧ e.mutedSince.getD 0 false = true) ∧
    (¬ ∃ e, (completing false).evaluation = some e ∧ e.mutedSince.getD 0 false = true) ∧
    (completeLane 9 [.silent] [0] [0] 0 (completing true)).notices = [] ∧
    (completeLane 9 [.silent] [0] [0] 0 (completing false)).notices.map (fun n => (n.subject, n.state, n.sweep)) =
      [(.lane 0, .lane .muted, 9)] ∧
    ((completeLane 9 [.silent] [0] [0] 0 (completing false)).lane 0).stateEntrySweep = 9 := by
  refine ⟨⟨_, rfl, rfl⟩, ?_, by decide +kernel, by decide +kernel, by decide +kernel⟩
  rintro ⟨e, h, hm⟩
  cases h
  exact Bool.noConfusion hm

theorem witness_GrantsNeverExceedTheBudget :
    let s : State := { running with
      pointRecords := [some ⟨.valid, some 950, false, false⟩, some ⟨.valid, some 950, false, true⟩, none]
      activeSet := { tables with
        curves := [some budgetCurve], parameters := { Parameters.default with budgetPoint := some 0 } } }
    [1800, 2000, 700].sum ≤ 4500 ∧ 4500 < [1800, 2000, 1500].sum ∧
    running.activeSet.parameters.budgetPoint = none ∧ s.activeSet.parameters.budgetPoint = some 0 ∧
    (s.pointOrNone 0).state = .valid ∧ (s.pointOrNone 0).value = some 950 ∧ (s.pointOrNone 0).noisy = false ∧
    s.activeSet.curve s.activeSet.parameters.budgetCurve = some budgetCurve ∧ (s.pointOrNone 1).noisy = true ∧
    (s.pointOrNone 2).state ≠ .valid := by decide +kernel

/-- One lane below L, with a plan, and the others at or above L. -/
theorem witness_GrantsNeverExceedTheBudget_lanes :
    running.activeSet.plan 0 = some plan ∧ 0 < running.siteRecord.lanes ∧ 0 < running.lanes.length ∧
    running.siteRecord.lanes ≤ 1 ∧ Settled.running false ≠ .silent ∧
    (completeStage 9 [.running false] running).budget.demandSum = 2000 := by decide +kernel

/-- The case of six lanes of section 8.3: short, every plan in its ranges, strict, weighted and tied lanes. -/
theorem witness_GrantsNeverExceedTheBudget_short :
    let t : TableSet := { TableSet.empty with
      lanePlan := [classed (.strict 2), classed (.strict 1), classed (.weighted 2), classed (.weighted 5),
        classed (.weighted 2), classed (.weighted 3)] }
    4284 < [1800, 1200, 1000, 3000, 0, 1500].sum ∧ (∀ l e, t.plan l = some e → e.InRange) ∧ t.plan 6 = none ∧
    (t.plan 0).map (·.budgetClass) = some (.strict 2) ∧ (t.plan 5).map (·.budgetClass) = some (.weighted 3) := by
  refine ⟨by decide, ?_, rfl, rfl, rfl⟩
  rintro (_ | _ | _ | _ | _ | _ | l) e h <;>
    (simp [TableSet.plan, classed, plan] at h; try (subst h; simp [LanePlan.InRange]))

theorem witness_CeilingIsTheLeastComponent :
    let q : RowRuntime := { RowRuntime.initial with phase := .asserted, ceilingInForce := some 900 }
    let s : State := { running with rowRuntimes := [none, some q] }
    1 < rowCount ∧ s.CapsLane 1 0 900 ∧ { running with senseBlind := true }.senseBlind = true ∧
    { running with headLost := [true] }.isHeadLost 0 = true ∧ running.Serves 0 0 ∧
    { onAir with mode := .reduced }.mode = .reduced ∧ running.activeSet.plan 0 = some plan ∧
    State.reset.activeSet.plan 0 = none :=
  ⟨by decide, ⟨_, _, rfl, rfl, .inl rfl, rfl, .inl rfl, rfl⟩, rfl, rfl, ⟨0, _, 0, .last, 125, 0, by decide, rfl, rfl, .inl rfl⟩,
    rfl, rfl, rfl⟩

theorem witness_WaitingActivationIsAppliedDeferredOrAbandoned :
    running.waiting = none ∧
    { running with rowRuntimes := [some { RowRuntime.initial with latched := true }] }.blocking = some .latched ∧
    (serving (silent .lockout)).blocking = some .lockout ∧
    (let s := waitingAt 1022 .blank; s.waiting.isSome ∧ s.blocking = some .blank ∧ 1022 + 1 < 1024) ∧
    (let s := waitingAt 1023 .blank
     s.waiting.isSome ∧ s.blocking = some .blank ∧ 1023 + 1 = 1024 ∧ s.commands.length = 1) ∧
    (let s := waitingAt 0 .normal; s.waiting.isSome ∧ s.blocking = none ∧ s.commands.length = 1) := by decide +kernel

/-- `tables` with another point 0, row 0 dropped, row 1 on another source, row 2 kept, and zone 1 for lane 0. -/
def otherTables : TableSet :=
  { tables with
    points := some { kind := .temp, scope := .site, source := .head 1 0 .last 125 0 } :: tables.points.tail
    rows := none :: some (counted 1 1) :: tables.rows.drop 2
    zonePlan := [some { zone := 1, fromDefault := false }]
    parameters := { Parameters.default with arcLimit := 1 } }

theorem witness_WaitingActivationIsAppliedDeferredOrAbandoned_application :
    let asserted : RowRuntime := { RowRuntime.initial with phase := .asserted }
    let s : State := { zoned .normal 0 onAir with
      rowRuntimes := some asserted :: running.rowRuntimes.tail, waiting := some { tables := otherTables, deferrals := 0 } }
    s.waiting = some { tables := otherTables, deferrals := 0 } ∧ s.blocking = none ∧ 0 < s.pointRecords.length ∧
    tables.point 0 ≠ otherTables.point 0 ∧ tables.point 1 = otherTables.point 1 ∧ 2 < s.rowRuntimes.length ∧
    otherTables.row 0 = none ∧ tables.row 2 = otherTables.row 2 ∧ (tables.row 2).isSome ∧
    (tables.row 1).map (·.action) ≠ (otherTables.row 1).map (·.action) ∧
    ((List.range 48).filter fun r =>
      (carryNotice r 1 (s.activeSet.row r) (otherTables.row r) (s.rowRuntime r)).isSome) = [0] ∧
    [0].Pairwise (· < ·) ∧
    0 < s.siteRecord.lanes ∧ tables.zoneOf 0 ≠ otherTables.zoneOf 0 ∧
    otherTables.parameters.arcLimit < tables.parameters.arcLimit ∧ 1 ≤ (s.zone 0).arcHistory.length ∧
    tables.head 0 = otherTables.head 0 := by decide +kernel

theorem witness_ActivationIsAbandonedAtTheLimit :
    (let s := waitingAt 1023 .blank
     s.inReset = false ∧ s.waiting.isSome ∧ s.blocking = some .blank ∧ s.commands.length = 1) ∧
    running.waiting = none ∧ (waitingAt 1023 .normal).blocking = none ∧
    ((waitingAt 1022 .blank).waiting.map (·.deferrals)) = some 1022 ∧
    (waitingAt 1023 .blank).commands.tail = [] ∧ (waitingAt 1023 .blank).evaluation = none ∧
    ({ waitingAt 1023 .blank with evaluation := some ⟨false, [], [], []⟩ } : State).evaluation.isSome = true ∧
    8 < ((payloadOf [9]).getD 0 0).toNat := by decide +kernel

/-- `running` with a snapshot interval. -/
def snapping (interval count : Nat) : State :=
  { running with
    snapshotCount := count
    activeSet := { tables with parameters := { Parameters.default with snapshotInterval := interval } } }

theorem witness_DueSnapshotIsBuilt :
    (let s := snapping 2 1
     s.inReset = false ∧ 0 < s.activeSet.parameters.snapshotInterval ∧
     s.activeSet.parameters.snapshotInterval ≤ s.snapshotCount + 1 ∧ 0 < s.siteRecord.lanes ∧ s.siteRecord.lanes ≤ 1) ∧
    (snapping 0 0).activeSet.parameters.snapshotInterval = 0 ∧
    (let s := snapping 2 0; s.snapshotCount + 1 < s.activeSet.parameters.snapshotInterval) ∧
    (running.activeSet.plan 0).bind (·.ratioPoint) = some 2 ∧
    (running.activeSet.point 2).map (·.source) = some (.ratio 0 1) := by decide +kernel

theorem ready_running (v : Lane) : (serving v).Ready := ⟨rfl, rfl, rfl, rfl, Nat.succ_pos 3⟩
theorem ready_reset : State.reset.Ready := ⟨rfl, rfl, rfl, rfl, Nat.succ_pos 3⟩

/-- The field lists are those of the loads' witness above; 63, 15, 3, 47 and 7 are the last indices. -/
theorem witness_LoadsWriteThePendingSet :
    State.reset.Ready ∧ ([5, 2, 0, 15, 3, 3, 0xFFFF, 0x8000] : List Word).length ≤ 60 ∧
    (parsePoint [5, 2, 0, 15, 3, 3, 0xFFFF, 0x8000]).isSome ∧ parsePoint [6] = none ∧ parseHead [17] = none ∧
    parseCurve [1] = none ∧ parseRow [64] = none ∧ parseZone [8] = none ∧ parseLanePlan [0] = none ∧
    parseParameters [1001] = none ∧ (63 : Word).toNat < 64 ∧ 64 ≤ (64 : Word).toNat ∧ (2 : Word) ≠ 0 ∧ (2 : Word) ≠ 1 :=
  ⟨ready_reset, by decide +kernel⟩

theorem witness_ActivateIsRefusedFailsOrWaits :
    (serving onAir).Ready ∧
    (let s : State := { running with rowRuntimes := [some { RowRuntime.initial with latched := true }] }
     s.latchedRows ≠ []) ∧
    (serving (silent .lockout)).lockedLanes ≠ [] ∧ running.latchedRows = [] ∧ running.lockedLanes = [] ∧
    validate running.siteRecord (resolveZones running.siteRecord running.pendingSet) = some (14, 0) ∧
    (let s : State := { running with pendingSet := tables }
     validate s.siteRecord (resolveZones s.siteRecord s.pendingSet) = none) ∧ 7 < TableSet.empty.zonePlan.length :=
  ⟨ready_running _, by decide +kernel⟩

theorem witness_SiteReplacesTheRecord :
    State.reset.Ready ∧ State.reset.lanes.length = laneCount ∧ State.reset.multipliers.length = laneCount ∧
    running.phase = .service ∧ State.reset.phase = .setup ∧ ¬ ((2 : Word).toNat ≤ (1 : Word).toNat) ∧
    (8 : Word).toNat ≤ (8 : Word).toNat ∧ (15 : Word).toNat * 65536 + (16960 : Word).toNat ≤ 1000000 :=
  ⟨ready_reset, by decide +kernel⟩

theorem witness_LaneOnTurnsTheLaneOn :
    (serving (silent .off)).Ready ∧ (serving (silent .off)).lanes.length = laneCount ∧
    running.siteRecord.lanes ≤ laneCount ∧ running.siteRecord.lanes ≤ (1 : Word).toNat ∧
    (0 : Word).toNat < running.siteRecord.lanes ∧ State.reset.phase = .setup ∧ running.phase = .service ∧
    (silent .off).state = .off ∧ { silent .off with lockoutCause := .probe }.lockoutCause = .probe ∧
    (silent .off).lockoutCause ≠ .probe ∧ { silent .off with firstTurnOnDone := false }.firstTurnOnDone = false ∧
    plan.probePolicy = .followStrap ∧ running.probePolHigh = false ∧ ProbePolicy.afterFault ≠ .always ∧
    { running with probePolHigh := true }.probePolHigh = true ∧ (silent .off).firstTurnOnDone = true ∧
    onAir.state ≠ .off :=
  ⟨ready_running _, by decide +kernel⟩

theorem witness_LaneOffSilencesTheLane :
    running.Ready ∧ running.lanes.length = laneCount ∧ running.siteRecord.lanes ≤ laneCount ∧
    running.siteRecord.lanes ≤ (1 : Word).toNat ∧ (0 : Word).toNat < running.siteRecord.lanes ∧
    running.activeSet.zoneOf 0 = some 0 ∧ ((zoned .lockout 0 (silent .lockout)).zone 0).state = .lockout ∧
    (running.zone 0).state ≠ .lockout ∧ (silent .muted).state = .muted ∧ onAir.state ≠ .muted ∧
    onAir.state ≠ .blank ∧ onAir.state ≠ .lockout :=
  ⟨ready_running _, by decide +kernel⟩

theorem witness_LaneModeAndSetpointAreWritten :
    running.Ready ∧ running.lanes.length = laneCount ∧ running.siteRecord.lanes ≤ laneCount ∧
    running.siteRecord.lanes ≤ (1 : Word).toNat ∧ 2 < (3 : Word).toNat ∧
    (0 : Word).toNat < running.siteRecord.lanes ∧ (2 : Word).toNat ≤ 2 :=
  ⟨ready_running _, by decide +kernel⟩

theorem witness_ClearOfRows :
    let asserted : RowRuntime := { RowRuntime.initial with phase := .asserted, latched := true }
    let s : State := { running with
      rowRuntimes := [some asserted, some { RowRuntime.initial with latched := true }, some RowRuntime.initial]
      pointRecords := List.replicate 3 (some ⟨.held, some 600, false, false⟩) }
    running.Ready ∧ 1 < (2 : Word).toNat ∧ 256 ≤ (256 : Word).toNat ∧ (1 : Word).toNat ≤ 1 ∧
    namedBits [1, 0, 0, 0] = [0] ∧ namedBits [0, 0, 0x8000, 0] = [47] ∧ 47 < rowCount ∧ (s.activeSet.row 0).isSome ∧
    s.rowRuntime 0 = some asserted ∧ asserted.phase = .asserted ∧ s.HeldSource 0 2 ∧
    (∀ i, ¬ running.HeldSource 0 i) ∧ (s.rowRuntime 1).map (·.latched) = some true ∧
    (s.rowRuntime 2).map (fun q => (q.phase, q.latched)) = some (.idle, false) ∧ RowPhase.pending ≠ .idle ∧
    (tables.row 2).map (·.report) = some .quiet ∧ (tables.row 0).map (·.report) = some .alert ∧ tables.row 47 = none := by
  refine ⟨ready_running _, by decide, by decide, by decide, by decide +kernel, by decide +kernel, by decide, rfl, rfl, rfl,
    ⟨_, _, _, rfl, rfl, rfl, rfl, rfl, rfl⟩, ?_, rfl, rfl, by decide, rfl, rfl, rfl⟩
  rintro i ⟨d, e, p, hd, rfl, _, _, hp, h⟩
  cases hd
  cases hp
  exact absurd h (by decide)

/-- Rows 0 and 1 stand on the one ratio 2, which is HELD. -/
def twoHeld : State :=
  { running with
    rowRuntimes := [some { RowRuntime.initial with phase := .asserted, latched := true },
      some { RowRuntime.initial with phase := .clearing, progress := 2 }, some RowRuntime.initial]
    pointRecords := List.replicate 3 (some ⟨.held, some 600, false, false⟩) }

theorem witness_ClearOfRows_two :
    twoHeld.Ready ∧ namedBits [3, 0, 0, 0] = [0, 1] ∧ 1 < rowCount ∧ twoHeld.HeldSource 0 2 ∧ twoHeld.HeldSource 1 2 ∧
    (twoHeld.rowRuntime 0).map (·.phase) = some .asserted ∧ (twoHeld.rowRuntime 1).map (·.phase) = some .clearing ∧
    (128 : Word).toNat < 256 :=
  ⟨⟨rfl, rfl, rfl, rfl, Nat.succ_pos 3⟩, by decide +kernel, by decide, ⟨_, _, _, rfl, rfl, rfl, rfl, rfl, rfl⟩,
    ⟨_, _, _, rfl, rfl, rfl, rfl, rfl, rfl⟩, rfl, rfl, by decide⟩

/-- Two rows on one HELD ratio are both returned, with their notices in ascending index (R73, R171). -/
theorem test_clear_two_rows_on_one_ratio :
    field (exec (.clear 1 0 3 0 0 0 0 0) twoHeld) (fun t =>
      (t.replies.map (fun q => (q.result, q.data)), t.rowRuntimes.map (fun q => q.map (·.phase)),
        (t.pointRecord 2).map (·.state), t.notices.map (·.subject))) =
      some ([(.done, .cleared [] [] 1 2 0)], [some .idle, some .idle, some .idle], some .noValue, [.row 0, .row 1]) := by
  decide +kernel

/-- A lane in LOCKOUT with cause ARC stays when it is named alone and counts as cleared when its zone is named with it; the row
named with them stays (R171). -/
theorem test_clear_row_zone_and_lane :
    let s := { zoned .lockout 0 { silent .lockout with lockoutCause := .arc } with
      rowRuntimes := [some { RowRuntime.initial with phase := .pending }] }
    field (exec (.clear 1 0 1 0 0 0 1 1) s) (fun t => (t.replies.map (·.data), (t.lane 0).state, t.notices.map (·.subject))) =
      some ([.cleared [0] [] 0 0 1], .probe, [.zone 0, .lane 0]) ∧
    field (exec (.clear 1 0 1 0 0 0 1 0) s) (fun t => (t.replies.map (·.data), (t.lane 0).state)) =
      some ([.cleared [0] [0] 0 0 0], .lockout) := by decide +kernel

theorem witness_ClearOfOneZoneOrLane :
    running.Ready ∧ 0 < 8 ∧ running.lanes.length = laneCount ∧ running.multipliers.length = laneCount ∧
    running.zones.length = zoneCount ∧ running.siteRecord.lanes ≤ laneCount ∧ running.siteRecord.zones ≤ zoneCount ∧
    0 < running.siteRecord.zones ∧ (running.zone 0).state ≠ .lockout ∧
    ((zoned .lockout 0 (silent .lockout)).zone 0).state = .lockout ∧ 0 < running.siteRecord.lanes ∧
    ((serving { silent .lockout with lockoutCause := .arc }).lane 0).lockoutCause = .arc ∧
    ((serving { silent .lockout with lockoutCause := .probe }).lane 0).state = .lockout ∧
    ((serving { silent .lockout with lockoutCause := .probe }).lane 0).lockoutCause = .probe ∧
    running.siteRecord.zones ≤ 1 ∧ running.siteRecord.lanes ≤ 1 ∧ (running.lane 0).state ≠ .lockout ∧
    (running.lane 0).state ≠ .off ∧ { silent .off with lockoutCause := .probe }.lockoutCause = .probe ∧
    (let s := zoned .lockout 0 { silent .lockout with lockoutCause := .arc }
     ∀ l, l < laneCount → (l ∈ [0] ↔ l < s.siteRecord.lanes ∧ s.activeSet.zoneOf l = some 0 ∧
       (s.lane l).state = .lockout ∧ (s.lane l).lockoutCause = .arc)) :=
  ⟨ready_running _, by decide +kernel⟩

theorem witness_IndexedReadsReturnTheirItem : running.Ready ∧ (7 : Word).toNat < 8 ∧ 8 ≤ (8 : Word).toNat :=
  ⟨ready_running _, by decide⟩

theorem witness_OtherReadsReturnTheirItem : running.Ready := ready_running _

theorem witness_AlertFollowsItsMembers : running.inReset = false := rfl

theorem witness_RestartClearsTheProtection : running.Ready := ready_running _

theorem witness_UnknownCommandIsAnsweredUnknown : running.Ready ∧ ((0 : Word) = 0 ∧ 8 < (9 : Word).toNat) :=
  ⟨ready_running _, by decide⟩

end Sys2Proof.Tests
end

/-! PROOFS. The command slots of a launch (R19): when a Head Table entry differs from a reported mode, the slot each case
gives, and the slots that a launch puts in its in-flight record. -/

namespace Sys2Proof.Machine

/-! ### When an entry differs from the reported mode -/

@[simp] theorem headDiffers_none (e : HeadEntry) : headDiffers e none = true := rfl

/-- Quad inputs are compared in QUAD only (R19). -/
theorem headDiffers_some_iff (e : HeadEntry) (m : ReportedMode) :
    headDiffers e (some m) = true ↔ e.mode ≠ m.mode ∨ (e.mode = .quad ∧ e.quadInput ≠ m.quadInput) := by
  simp [headDiffers]

/-! ### The slot of one position -/

theorem State.slotFor_of_undefined {s : State} {k : Nat} (hentry : s.activeSet.head k = none) : s.slotFor k = .nop := by
  simp [State.slotFor, hentry]

theorem State.slotFor_of_differs {s : State} {k : Nat} {e : HeadEntry} (hentry : s.activeSet.head k = some e)
    (hdiffers : headDiffers e (s.reportedMode k) = true) :
    s.slotFor k = .setMode e.mode (if e.mode = .quad then e.quadInput else 0) := by
  simp [State.slotFor, hentry, hdiffers]

theorem State.slotFor_of_agrees {s : State} {k : Nat} {e : HeadEntry} (hentry : s.activeSet.head k = some e)
    (hagrees : ¬ headDiffers e (s.reportedMode k) = true) : s.slotFor k = .nop := by
  simp [State.slotFor, hentry, hagrees]

/-- Two SPREAD modes agree whatever the quad inputs beside them. -/
theorem State.slotFor_of_both_spread {s : State} {k : Nat} {e : HeadEntry} {m : ReportedMode}
    (hentry : s.activeSet.head k = some e) (hreported : s.reportedMode k = some m)
    (hspread : e.mode = .spread) (hm : m.mode = .spread) : s.slotFor k = .nop := by
  refine State.slotFor_of_agrees hentry ?_
  rw [hreported, headDiffers_some_iff]
  simp [hspread, hm]

/-- Between two QUAD modes the quad input decides. -/
theorem State.slotFor_of_both_quad {s : State} {k : Nat} {e : HeadEntry} {m : ReportedMode}
    (hentry : s.activeSet.head k = some e) (hreported : s.reportedMode k = some m)
    (hquad : e.mode = .quad) (hm : m.mode = .quad) :
    s.slotFor k = if e.quadInput = m.quadInput then .nop else .setMode .quad e.quadInput := by
  have hdiffers : headDiffers e (s.reportedMode k) = true ↔ e.quadInput ≠ m.quadInput := by
    rw [hreported, headDiffers_some_iff]
    simp [hquad, hm]
  split
  case isTrue hsame => exact State.slotFor_of_agrees hentry fun h => hdiffers.mp h hsame
  case isFalse hother => simpa [hquad] using State.slotFor_of_differs hentry (hdiffers.mpr hother)

/-! ### The slots of a launch -/

theorem State.launch_inFlight (s : State) :
    s.launch.inFlight = some
      { sweep := s.sweepNumber + 1, tag := (s.sweepNumber + 1).setWidth 4, chainLength := s.siteRecord.heads
        slots := (List.range s.siteRecord.heads).map s.slotFor } := rfl

/-- A launch holds one slot for each of the N positions, in position order. -/
theorem State.launch_slots (s : State) (k : Nat) :
    ∃ f, s.launch.inFlight = some f ∧ f.slots.length = s.siteRecord.heads ∧
      (k < s.siteRecord.heads → f.slots[k]? = some (s.slotFor k)) :=
  ⟨_, s.launch_inFlight, by simp, fun hk => by simp [hk]⟩

/-- Settles O25: the launch holds `slotFor` of every position, and each clause is the case of `slotFor` it names. -/
theorem slotCommandsTheEntrysMode : Obligations.SlotCommandsTheEntrysMode := by
  unfold Obligations.SlotCommandsTheEntrysMode
  intro s k
  refine ⟨s.launch_slots k, State.slotFor_of_undefined, fun e hentry => ⟨?unreported, ?modesDiffer, ?spread, ?quad⟩⟩
  case unreported =>
    intro hreported
    exact State.slotFor_of_differs hentry (by rw [hreported, headDiffers_none])
  case modesDiffer =>
    intro m hreported hmode
    exact State.slotFor_of_differs hentry (by rw [hreported, headDiffers_some_iff]; exact .inl hmode)
  case spread => exact fun _ hreported => State.slotFor_of_both_spread hentry hreported
  case quad => exact fun _ hreported => State.slotFor_of_both_quad hentry hreported

end Sys2Proof.Machine

/-! PROOFS. The point update (R39, R40, R44 to R47): each case of a RATIO point from its two sources, what each pass leaves
at one place, and the record that the stage gives a point that is or is not of a RATIO source. -/

namespace Sys2Proof.Machine

/-! ### A point without a fresh value -/

/-- A point keeps its value as STALE or stays NO_VALUE, and its markers are cleared (R39, R40). -/
theorem PointRecord.unfresh_eq (p : PointRecord) :
    p.unfresh =
      { state := if p.value.isSome then .stale else .noValue, value := p.value, overRange := false, noisy := false } := by
  unfold PointRecord.unfresh
  split
  case h_1 v hvalue => simp [hvalue]
  case h_2 hvalue => simp [hvalue, PointRecord.initial]

/-! ### A RATIO point from its two sources (R44 to R47) -/

section ValidSources

variable {floor f g : Nat} {forward reflected p : PointRecord}
  (hforward : forward.state = .valid) (hf : forward.value = some f)
  (hreflected : reflected.state = .valid) (hg : reflected.value = some g)

include hforward hf hreflected hg

theorem ratioPoint_computed (hfloor : floor ≤ f) :
    ratioPoint floor forward reflected p =
      { state := .valid, value := some (returnRatio f g)
        overRange := forward.overRange || reflected.overRange, noisy := forward.noisy || reflected.noisy } := by
  simp [ratioPoint, hforward, hf, hreflected, hg, hfloor]

theorem ratioPoint_held (hfloor : f < floor) {v : Nat} (hvalue : p.value = some v) :
    ratioPoint floor forward reflected p =
      { state := .held, value := some v
        overRange := forward.overRange || reflected.overRange, noisy := forward.noisy || reflected.noisy } := by
  simp [ratioPoint, hforward, hf, hreflected, hg, hvalue, Nat.not_le.mpr hfloor]

theorem ratioPoint_below_without_value (hfloor : f < floor) (hvalue : p.value = none) :
    ratioPoint floor forward reflected p = PointRecord.initial := by
  simp [ratioPoint, hforward, hf, hreflected, hg, hvalue, Nat.not_le.mpr hfloor]

end ValidSources

theorem ratioPoint_of_source_not_valid {forward reflected : PointRecord}
    (hsource : forward.state ≠ .valid ∨ reflected.state ≠ .valid) (floor : Nat) (p : PointRecord) :
    ratioPoint floor forward reflected p = p.unfresh := by
  unfold ratioPoint
  split
  case h_1 hforward _ hreflected _ => exact absurd hsource (by simp [hforward, hreflected])
  case h_2 => rfl

/-! ### The two passes on one point (R40) -/

@[simp] theorem firstPass_no_record (c : Classified) (e : Option PointEntry) : firstPass c e none = none := by
  unfold firstPass
  split <;> trivial

@[simp] theorem secondPass_no_record (floor : Nat) (records : List (Option PointRecord)) (e : Option PointEntry) :
    secondPass floor records e none = none := by
  unfold secondPass
  split <;> trivial

theorem firstPass_of_ratio {e : PointEntry} {f g : Nat} (hsource : e.source = .ratio f g) (c : Classified)
    (p : Option PointRecord) : firstPass c (some e) p = p := by
  obtain ⟨kind, scope, source⟩ := e
  cases hsource
  rfl

theorem secondPass_of_ratio {e : PointEntry} {f g : Nat} (hsource : e.source = .ratio f g) (floor : Nat)
    (records : List (Option PointRecord)) (p : PointRecord) :
    secondPass floor records (some e) (some p) =
      some (ratioPoint floor ((records.getD f none).getD PointRecord.initial)
        ((records.getD g none).getD PointRecord.initial) p) := by
  obtain ⟨kind, scope, source⟩ := e
  cases hsource
  rfl

/-- The second pass leaves every point but a RATIO point as the first pass left it. -/
theorem secondPass_of_not_ratio {e : Option PointEntry} (hsource : ∀ d, e = some d → ∀ a b, d.source ≠ .ratio a b)
    (floor : Nat) (records : List (Option PointRecord)) (p : Option PointRecord) :
    secondPass floor records e p = p := by
  unfold secondPass
  split
  case h_1 => exact absurd rfl (hsource _ rfl _ _)
  case h_2 => rfl

/-! ### The stage, place by place -/

/-- An operation on each record by its place acts on each place alone, and a place beyond the list stays without one. -/
theorem getD_zipIdx_map {α : Type} (op : Nat → Option α → Option α) (hnone : ∀ i, op i none = none)
    (records : List (Option α)) (i : Nat) :
    (records.zipIdx.map fun x => op x.2 x.1).getD i none = op i (records.getD i none) := by
  simp only [List.getD_eq_getElem?_getD, List.getElem?_map, List.getElem?_zipIdx]
  cases records[i]? with
  | none => exact (hnone i).symm
  | some p => simp

/-- Point `i` takes its first pass, then its second on the records that the first pass gave every point. -/
theorem pointStage_pointRecord (c : Classified) (s : State) :
    ∃ first : List (Option PointRecord),
      (∀ j, first.getD j none = firstPass c (s.activeSet.point j) (s.pointRecord j)) ∧
      ∀ i, (pointStage c s).pointRecord i =
        secondPass s.siteRecord.ratioFloor first (s.activeSet.point i)
          (firstPass c (s.activeSet.point i) (s.pointRecord i)) := by
  have hfirst := getD_zipIdx_map (fun i p => firstPass c (s.activeSet.point i) p) (by simp) s.pointRecords
  refine ⟨_, hfirst, fun i => ?_⟩
  have hsecond := fun first =>
    getD_zipIdx_map (fun i p => secondPass s.siteRecord.ratioFloor first (s.activeSet.point i) p) (by simp) first i
  exact (hsecond _).trans (congrArg _ (hfirst i))

theorem pointStage_of_not_ratio {s : State} {i : Nat}
    (hsource : ∀ d, s.activeSet.point i = some d → ∀ a b, d.source ≠ .ratio a b) (c : Classified) :
    (pointStage c s).pointRecord i = firstPass c (s.activeSet.point i) (s.pointRecord i) := by
  obtain ⟨first, -, hstage⟩ := pointStage_pointRecord c s
  rw [hstage, secondPass_of_not_ratio hsource]

theorem pointStage_of_ratio {s : State} {i f g : Nat} {e : PointEntry} {p : PointRecord}
    (hentry : s.activeSet.point i = some e) (hsource : e.source = .ratio f g) (hrecord : s.pointRecord i = some p)
    (c : Classified) :
    (pointStage c s).pointRecord i =
      some (ratioPoint s.siteRecord.ratioFloor
        ((firstPass c (s.activeSet.point f) (s.pointRecord f)).getD PointRecord.initial)
        ((firstPass c (s.activeSet.point g) (s.pointRecord g)).getD PointRecord.initial) p) := by
  obtain ⟨first, hfirst, hstage⟩ := pointStage_pointRecord c s
  rw [hstage, hentry, firstPass_of_ratio hsource, hrecord, secondPass_of_ratio hsource, hfirst, hfirst]

/-- Settles O32: each case of `ratioPoint`, and in the stage the second pass, whose sources are as the whole stage leaves
them because it does not move a point that is no RATIO point. -/
theorem ratioIsComputedHeldOrStale : Obligations.RatioIsComputedHeldOrStale := by
  unfold Obligations.RatioIsComputedHeldOrStale
  refine ⟨fun floor f g forward reflected p => ⟨fun hforward hf hreflected hg => ⟨?computed, ?held, ?noValue⟩, ?stale⟩,
    fun s c i f g e p hentry hsource hrecord hsources => ?stage⟩
  case computed => exact ratioPoint_computed hforward hf hreflected hg
  case held => exact fun hfloor _ hvalue => ratioPoint_held hforward hf hreflected hg hfloor hvalue
  case noValue => exact ratioPoint_below_without_value hforward hf hreflected hg
  case stale => exact fun hinvalid => (ratioPoint_of_source_not_valid hinvalid floor p).trans p.unfresh_eq
  case stage =>
    have hforward := pointStage_of_not_ratio (fun d => hsources f d (.inl rfl)) c
    have hreflected := pointStage_of_not_ratio (fun d => hsources g d (.inr rfl)) c
    rw [pointStage_of_ratio hentry hsource hrecord]
    simp only [State.pointOrNone, hforward, hreflected]

end Sys2Proof.Machine

/-! PROOFS. The curve at a value (R80, R81): the interpolation stays between the y values of its segment, a breakpoint with a
later one at or below the value plays no part, and the three forms of the result and its bounds follow. -/

namespace Sys2Proof.Machine

/-! ### The interpolation on one segment (R80, R81) -/

/-- A part of `d` below the whole, rounded down, lies between 0 and `d`, whichever sign `d` has. -/
theorem floor_part_between {d a b : Int} (ha : 0 ≤ a) (hab : a < b) :
    min 0 d ≤ d * a / b ∧ d * a / b ≤ max 0 d := by
  have hb : 0 < b := ha.trans_lt hab
  rw [Int.le_ediv_iff_mul_le hb]
  rcases le_total 0 d with hd | hd
  · rw [min_eq_left hd, max_eq_right hd, zero_mul]
    exact ⟨mul_nonneg hd ha, Int.ediv_le_of_le_mul hb (mul_le_mul_of_nonneg_left hab.le hd)⟩
  · rw [min_eq_right hd, max_eq_left hd]
    exact ⟨mul_le_mul_of_nonpos_left hab.le hd,
      Int.ediv_le_of_le_mul hb ((mul_nonpos_of_nonpos_of_nonneg hd ha).trans_eq (zero_mul b).symm)⟩

section Segment
variable {p q : Breakpoint} {v : Nat} (hp : p.x ≤ v) (hq : v < q.x)
include hp hq

/-- R80's formula between the y values of its segment (R81). -/
theorem interpolation_between :
    let value := (p.y : Int) + ((q.y : Int) - p.y) * ((v : Int) - p.x) / ((q.x : Int) - p.x)
    min (p.y : Int) q.y ≤ value ∧ value ≤ max (p.y : Int) q.y := by
  have := floor_part_between (d := (q.y : Int) - p.y) (a := (v : Int) - p.x) (b := (q.x : Int) - p.x)
    (by omega) (by omega)
  omega

/-- Inside its segment the formula is never negative, so `interpolate` cuts nothing off it. -/
theorem interpolate_eq :
    (interpolate p q v : Int) = (p.y : Int) + ((q.y : Int) - p.y) * ((v : Int) - p.x) / ((q.x : Int) - p.x) := by
  have := interpolation_between hp hq
  exact Int.toNat_of_nonneg (by omega)

theorem interpolate_between : min p.y q.y ≤ interpolate p q v ∧ interpolate p q v ≤ max p.y q.y := by
  have := interpolation_between hp hq
  have := interpolate_eq hp hq
  omega

end Segment

theorem interpolate_at_start (p q : Breakpoint) : interpolate p q p.x = p.y := by simp [interpolate]

/-! ### The curve by its first breakpoints -/

@[simp] theorem curveValue_singleton (p : Breakpoint) (v : Nat) : curveValue [p] v = p.y := rfl

theorem curveValue_of_le_first {p : Breakpoint} {v : Nat} (h : v ≤ p.x) (rest : Curve) :
    curveValue (p :: rest) v = p.y := by
  cases rest with
  | nil => rfl
  | cons q rest => exact if_pos h

/-- At its start `p.x` too the first segment gives its interpolation, which is `p.y` there. -/
theorem curveValue_of_first_segment {p q : Breakpoint} {v : Nat} (hp : p.x ≤ v) (hq : v < q.x) (rest : Curve) :
    curveValue (p :: q :: rest) v = interpolate p q v := by
  rcases hp.eq_or_lt with rfl | hp
  · rw [curveValue_of_le_first le_rfl, interpolate_at_start]
  · simp [curveValue, hp.not_ge, hq]

theorem curveValue_past_first_segment {p q : Breakpoint} {v : Nat} (hp : p.x < v) (hq : q.x ≤ v) (rest : Curve) :
    curveValue (p :: q :: rest) v = curveValue (q :: rest) v := by
  simp [curveValue, hp.not_ge, hq.not_gt]

/-- A breakpoint with a later one at or below the value plays no part. -/
theorem curveValue_cons_of_later_le {p q : Breakpoint} {rest : Curve} {v : Nat}
    (ascends : (p :: rest).Pairwise fun p q => p.x < q.x) (later : q ∈ rest) (h : q.x ≤ v) :
    curveValue (p :: rest) v = curveValue rest v := by
  obtain ⟨first, ascends⟩ := List.pairwise_cons.mp ascends
  cases rest with
  | nil => cases later
  | cons r rest =>
    have hr : r.x ≤ q.x := by
      rcases List.mem_cons.mp later with rfl | later
      · exact le_rfl
      · exact (List.rel_of_pairwise_cons ascends later).le
    have hp : p.x < r.x := first r List.mem_cons_self
    exact curveValue_past_first_segment (by omega) (hr.trans h) rest

/-! ### The whole curve -/

theorem curveValue_of_last_le {curve : Curve} {p : Breakpoint} {v : Nat}
    (ascends : curve.Pairwise fun p q => p.x < q.x) (last : curve.getLast? = some p) (h : p.x ≤ v) :
    curveValue curve v = p.y := by
  induction curve with
  | nil => cases last
  | cons r rest ih =>
    cases rest with
    | nil =>
      obtain rfl : r = p := by simpa using last
      rfl
    | cons s rest =>
      rw [List.getLast?_cons_cons] at last
      rw [curveValue_cons_of_later_le ascends (List.mem_of_getLast? last) h, ih ascends.of_cons last]

theorem curveValue_of_segment {curve : Curve} {k : Nat} {p q : Breakpoint} {v : Nat}
    (ascends : curve.Pairwise fun p q => p.x < q.x) (start : curve[k]? = some p) (stop : curve[k + 1]? = some q)
    (hp : p.x ≤ v) (hq : v < q.x) : curveValue curve v = interpolate p q v := by
  induction k generalizing curve with
  | zero =>
    obtain ⟨rest, rfl⟩ : ∃ rest, curve = p :: q :: rest := by
      match curve, start, stop with
      | _ :: _ :: rest, rfl, rfl => exact ⟨rest, rfl⟩
    exact curveValue_of_first_segment hp hq rest
  | succ k ih =>
    cases curve with
    | nil => cases start
    | cons r rest =>
      rw [List.getElem?_cons_succ] at start stop
      rw [curveValue_cons_of_later_le ascends (List.mem_of_getElem? start) hp, ih ascends.of_cons start stop]

/-- The x values need not ascend here: the interpolation is taken only inside its segment. -/
theorem curveValue_between (curve : Curve) (v : Nat) (nonempty : curve ≠ []) :
    (∃ p ∈ curve, p.y ≤ curveValue curve v) ∧ (∃ p ∈ curve, curveValue curve v ≤ p.y) := by
  induction curve with
  | nil => exact absurd rfl nonempty
  | cons p rest ih =>
    rcases le_or_gt v p.x with hp | hp
    · rw [curveValue_of_le_first hp]
      exact ⟨⟨p, List.mem_cons_self, le_rfl⟩, ⟨p, List.mem_cons_self, le_rfl⟩⟩
    · cases rest with
      | nil => simp
      | cons q rest =>
        rcases lt_or_ge v q.x with hq | hq
        · have bounds := interpolate_between hp.le hq
          rw [← curveValue_of_first_segment hp.le hq rest, min_le_iff, le_max_iff] at bounds
          simp only [List.exists_mem_cons_iff]
          exact ⟨bounds.1.imp_right .inl, bounds.2.imp_right .inl⟩
        · obtain ⟨⟨l, hl, below⟩, u, hu, above⟩ := ih (List.cons_ne_nil q rest)
          rw [curveValue_past_first_segment hp hq]
          exact ⟨⟨l, List.mem_cons_of_mem p hl, below⟩, u, List.mem_cons_of_mem p hu, above⟩

/-- Settles O36: the first breakpoint by the curve's own first test, the last one and each segment by dropping the breakpoints
before them, and the bounds from those of one segment. -/
theorem curveInterpolatesWithinItsBreakpoints : Obligations.CurveInterpolatesWithinItsBreakpoints := by
  unfold Obligations.CurveInterpolatesWithinItsBreakpoints
  intro curve v length ascends
  have nonempty : curve ≠ [] := List.length_pos_iff.mp (by omega)
  refine ⟨fun p first hp => ?first, fun p last hp => curveValue_of_last_le ascends last hp,
    fun k p q start stop hp hq => ?segment, curveValue_between curve v nonempty⟩
  case first =>
    obtain ⟨rest, rfl⟩ := List.head?_eq_some_iff.mp first
    exact curveValue_of_le_first hp rest
  case segment => rw [curveValue_of_segment ascends start stop hp hq, interpolate_eq hp hq]

end Sys2Proof.Machine

/-! PROOFS. What a step can do to the queues, the counts and the phase: every command but RESET_N's two is a run of the
atomic writes below, so an invariant over those fields needs one argument for each write. -/

namespace Sys2Proof.Machine

/-! ### The atomic writes -/

theorem saturatingSucc_le (greatest n : Nat) : saturatingSucc greatest n ≤ greatest := by
  rw [saturatingSucc_eq_min]
  exact Nat.min_le_left _ _

/-- What the invariants of the queues, the counts and the phase look at. -/
def State.queues (s : State) :=
  (s.notices, s.droppedCount, s.commands, s.replies, s.refusal, s.linkStatistics, s.sweepStatistics,
    s.consecutiveFailures, s.staleCounts, s.rowRuntimes, s.phase)

/-- Every link statistic is within 32 bits (R14). -/
def LinkStatistics.Bounded (x : LinkStatistics) : Prop :=
  x.framesTaken ≤ greatest32 ∧ x.checkFailures ≤ greatest32 ∧ x.unknownLane ≤ greatest32

/-- Every sweep statistic is within 32 bits (R35). -/
def SweepStatistics.Bounded (x : SweepStatistics) : Prop :=
  x.launched ≤ greatest32 ∧ x.timeouts ≤ greatest32 ∧ x.frameChecks ≤ greatest32 ∧ x.headerMismatches ≤ greatest32 ∧
    x.countMismatches ≤ greatest32 ∧ x.late ≤ greatest32

/-- Every stale count is at most 255 (R33). -/
def StaleCountsBounded (counts : List Nat) : Prop := ∀ k, counts.getD k 0 ≤ 255

/-- Every row has counted at most 65535 assertions (R62). -/
def AssertionsBounded (rows : List (Option RowRuntime)) : Prop :=
  ∀ r q, rows.getD r none = some q → q.assertions ≤ 65535

/-- One atomic write of a step, as far as `State.queues` sees it. -/
inductive State.Write : State → State → Prop where
  | frame {s t : State} (h : t.queues = s.queues) : Write s t
  | queueNotice (s : State) (n : Notice) : Write s (s.queueNotice n)
  | sendNotice (s : State) : Write s { s with notices := s.notices.tail }
  | clearNotices (s : State) : Write s { s with notices := [] }
  | clearDropped (s : State) : Write s { s with droppedCount := 0 }
  | keepCommand (s : State) (c : QueuedCommand) (h : s.placesHeld < commandPlaces) :
      Write s { s with commands := s.commands ++ [c] }
  | refuseCommand (s : State) (tag : Tag) : Write s (s.refuseCommand tag)
  | completeHead (s : State) (r : ReplyResult) (d : ReplyData) : Write s (s.completeHead r d)
  | sendReply (s : State) :
      Write s { s with
        replies := s.replies.tail, refusal := s.refusal.map fun r => { r with ahead := r.ahead - 1 } }
  | sendRefusal (s : State) : Write s { s with refusal := none }
  | linkStatistics (s : State) (x : LinkStatistics) (h : s.linkStatistics.Bounded → x.Bounded) :
      Write s { s with linkStatistics := x }
  | sweepStatistics (s : State) (x : SweepStatistics) (h : s.sweepStatistics.Bounded → x.Bounded) :
      Write s { s with sweepStatistics := x }
  | failures (s : State) (n : Nat) (h : n ≤ 65535) : Write s { s with consecutiveFailures := n }
  | staleCounts (s : State) (x : List Nat) (h : StaleCountsBounded s.staleCounts → StaleCountsBounded x) :
      Write s { s with staleCounts := x }
  | rows (s : State) (x : List (Option RowRuntime)) (h : AssertionsBounded s.rowRuntimes → AssertionsBounded x) :
      Write s { s with rowRuntimes := x }
  | serve (s : State) : Write s { s with phase := .service }

/-- `t` comes of `s` by atomic writes. -/
def State.Leads : State → State → Prop := Relation.ReflTransGen State.Write

/-- What every atomic write keeps, a run of them keeps. -/
theorem State.Leads.keeps {P : State → Prop} (hP : ∀ s t : State, s.Write t → P s → P t) {s t : State} (h : s.Leads t)
    (hs : P s) : P t := by
  induction h with
  | refl => exact hs
  | tail _ hw ih => exact hP _ _ hw ih

namespace State.Leads

theorem refl (s : State) : s.Leads s := Relation.ReflTransGen.refl

theorem trans {s t u : State} (h : s.Leads t) (k : t.Leads u) : s.Leads u := Relation.ReflTransGen.trans h k

theorem write {s t : State} (h : s.Write t) : s.Leads t := Relation.ReflTransGen.single h

/-- A state that agrees on the fields looked at. -/
theorem frame {s t : State} (h : t.queues = s.queues) : s.Leads t := .write (.frame h)

/-- A write, and then changes to fields that are not looked at. -/
theorem write_frame {s t u : State} (h : s.Write t) (k : u.queues = t.queues) : s.Leads u :=
  (write h).trans (frame k)

theorem ite {s t u : State} {p : Prop} [Decidable p] (ht : s.Leads t) (hu : s.Leads u) :
    s.Leads (if p then t else u) := by
  split
  · exact ht
  · exact hu

theorem forEach {f : Nat → State → State} (hf : ∀ i s, Leads s (f i s)) (is : List Nat) (s : State) :
    s.Leads (Machine.forEach is f s) :=
  forEach_keeps (P := fun t => s.Leads t) (fun i _ t ht => ht.trans (hf i t)) (refl s)

/-- A run over a list of items, on a state and what was found so far. -/
theorem foldl {α β : Type} {f : State × β → α → State × β} (hf : ∀ p a, Leads p.1 (f p a).1) (as : List α)
    (p : State × β) : p.1.Leads (as.foldl f p).1 := by
  induction as generalizing p with
  | nil => exact refl _
  | cons a as ih => exact (hf p a).trans (ih (f p a))

end State.Leads

open State (Leads)

/-! ### Records, notices and lanes -/

theorem State.setRow_leads (s : State) (r : Nat) (q : RowRuntime)
    (h : AssertionsBounded s.rowRuntimes → q.assertions ≤ 65535) : s.Leads (s.setRow r q) := by
  refine .write (.rows s _ fun hs k q' hk => ?_)
  by_cases hkr : r = k ∧ r < s.rowRuntimes.length
  · obtain ⟨rfl, hlt⟩ := hkr
    simp only [List.getD_eq_getElem?_getD, List.getElem?_set_self hlt, Option.getD_some, Option.some.injEq] at hk
    exact hk ▸ h hs
  · refine hs k q' ?_
    rw [← hk]
    simp only [List.getD_eq_getElem?_getD, List.getElem?_set]
    split <;> simp_all

theorem State.queueNotice?_leads (s : State) (n : Option Notice) : s.Leads (s.queueNotice? n) := by
  cases n with
  | none => exact .refl s
  | some n => exact .write (.queueNotice s n)

theorem State.queueEach_leads {after : Nat → State → State} (h : ∀ i t, Leads t (after i t)) (s : State) (is : List Nat)
    (notice : Nat → Option Notice) : s.Leads (s.queueEach is notice after) :=
  .forEach (fun i t => (t.queueNotice?_leads _).trans (h i _)) is s

theorem State.changeLane_leads (s : State) (l : Nat) (v : Lane) : s.Leads (s.changeLane l v) :=
  .trans (.frame (t := s.setLaneScaled l _) (by rfl)) (State.queueNotice?_leads _ _)

theorem muteLane_leads (l : Nat) (s : State) : s.Leads (muteLane l s) :=
  .ite ((s.changeLane_leads l _).trans (.frame (by rfl))) (.refl s)

theorem State.muteLanes_leads (s : State) : s.Leads s.muteLanes := .forEach muteLane_leads _ s

/-! ### Commands -/

theorem loadEntry_leads (s : State) (count : Nat) (part index : Word) (write : Nat → Option TableSet) :
    s.Leads (loadEntry s count part index write).1 := by
  unfold loadEntry
  split
  · split
    · exact .frame (by rfl)
    · exact .refl s
  · exact .refl s

theorem takeLoad_leads (part index definedWord : Word) (fields : List Word) (s : State) :
    s.Leads (takeLoad part index definedWord fields s).1 := by
  unfold takeLoad
  split
  iterate 7 exact loadEntry_leads s _ _ _ _
  exact .refl s

theorem State.zeroBeyond_leads (s : State) : s.Leads s.zeroBeyond := .forEach (fun _ _ => (.frame (by rfl))) _ s

theorem takeSite_leads (fields : List Word) (s : State) : s.Leads (takeSite fields s).1 := by
  unfold takeSite
  split
  · exact .refl s
  · split
    · exact .trans (.frame (t := { s with siteRecord := _ }) (by rfl)) (State.zeroBeyond_leads _)
    · exact .refl s

theorem takeActivate_leads (s : State) : s.Leads (takeActivate s).1 := by
  unfold takeActivate
  split
  · exact .refl s
  · dsimp only
    split
    · exact .refl s
    · exact .frame (by rfl)

theorem State.requestOn_leads (s : State) (l : Nat) : s.Leads (s.requestOn l) := by
  unfold State.requestOn
  dsimp only
  split
  · exact .ite (s.changeLane_leads l _) (s.changeLane_leads l _)
  · exact .frame (by rfl)

theorem State.requestOff_leads (s : State) (l : Nat) : s.Leads (s.requestOff l) :=
  .ite (.frame (by rfl)) (s.changeLane_leads l _)

theorem takeLane_leads (lane onWord modeWord setpointGiven setpoint : Nat) (s : State) :
    s.Leads (takeLane lane onWord modeWord setpointGiven setpoint s).1 := by
  unfold takeLane
  split
  · exact .refl s
  split
  · exact .refl s
  split
  · exact .refl s
  · have requested (t : State) : t.Leads (t.requestOnOff lane onWord) :=
      .ite (t.requestOn_leads lane) (.ite (t.requestOff_leads lane) (.refl t))
    exact .trans (.frame (by rfl)) (requested (s.setLane lane ((s.lane lane).operate modeWord setpointGiven setpoint)))

theorem clearLane_leads (l : Nat) (p : State × ClearTally) : p.1.Leads (clearLane l p).1 := by
  unfold clearLane
  dsimp only
  split
  · exact .refl _
  split
  · exact p.1.changeLane_leads l _
  split
  · exact .refl _
  split
  · exact .frame (by rfl)
  · exact .refl _

theorem clearZoneLane_leads (l : Nat) (p : State × ClearTally) : p.1.Leads (clearZoneLane l p).1 := by
  unfold clearZoneLane
  dsimp only
  split
  · exact p.1.changeLane_leads l _
  · exact .refl _

theorem clearZone_leads (z : Nat) (p : State × ClearTally) : p.1.Leads (clearZone z p).1 := by
  unfold clearZone
  dsimp only
  split
  · exact .refl _
  split
  · have lanes (q : State × ClearTally) (ls : List Nat) : q.1.Leads (ls.foldl (fun q l => clearZoneLane l q) q).1 :=
      .foldl (fun q l => clearZoneLane_leads l q) ls q
    have queued : p.1.Leads ((p.1.setZone z ⟨.normal, 0, []⟩).queueNotice (zoneNotice z ⟨.normal, 0, []⟩ p.1.lastEvaluation)) :=
      .trans (.frame (by rfl)) (.write (.queueNotice _ _))
    exact queued.trans (lanes (_, p.2) _)
  · exact .frame (by rfl)

theorem clearRow_leads (atTaking : State) (seenOption : Bool) (r : Nat) (p : State × ClearTally) :
    p.1.Leads (clearRow atTaking seenOption r p).1 := by
  unfold clearRow
  split
  case h_2 => exact .refl _
  case h_1 d q _ hq =>
    have written : p.1.Leads (p.1.setRow r { q with extreme := none, seen := if seenOption then false else q.seen }) :=
      p.1.setRow_leads r _ fun h => h r q hq
    have ended : p.1.Leads ((p.1.setRow r { q with extreme := none, seen := if seenOption then false else q.seen }).setRow r
        (RowRuntime.ended { q with extreme := none, seen := if seenOption then false else q.seen })) := by
      have h := p.1.setRow_leads r (RowRuntime.ended { q with extreme := none, seen := if seenOption then false else q.seen })
        fun h => h r q hq
      simpa [State.setRow] using h
    dsimp only
    split
    · split
      · exact ended
      · exact written
    · exact written
    · split
      · exact (ended.trans (.frame (by rfl))).trans (.ite (.write (.queueNotice _ _)) (.refl _))
      · exact written

theorem takeClear_leads (seenOption : Word) (rows : List Word) (lanes zones : Word) (s : State) :
    s.Leads (takeClear seenOption rows lanes zones s).1 := by
  unfold takeClear
  dsimp only
  split
  · exact .refl s
  · have ofRows (p : State × ClearTally) (is : List Nat) :
        p.1.Leads (is.foldl (fun q r => clearRow s (seenOption == 1) r q) p).1 :=
      .foldl (fun q r => clearRow_leads s _ r q) is p
    have ofZones (p : State × ClearTally) (is : List Nat) : p.1.Leads (is.foldl (fun q z => clearZone z q) p).1 :=
      .foldl (fun q z => clearZone_leads z q) is p
    have ofLanes (p : State × ClearTally) (is : List Nat) : p.1.Leads (is.foldl (fun q l => clearLane l q) p).1 :=
      .foldl (fun q l => clearLane_leads l q) is p
    exact ((ofRows (s, ClearTally.zero) _).trans (ofZones _ _)).trans (ofLanes _ _)

theorem readIndexed_state (count : Nat) (index : Word) (item : Nat → ReplyData) (s : State) :
    (readIndexed count index item s).1 = s := by
  unfold readIndexed
  split <;> rfl

theorem takeReadPendingEntry_state (part index : Word) (s : State) : (takeReadPendingEntry part index s).1 = s := by
  unfold takeReadPendingEntry
  dsimp only
  split
  iterate 7 exact readIndexed_state _ _ _ s
  rfl

/-- A READ leaves the state, but for the dropped flag and count, which the alert set's clears (R170). -/
theorem takeRead_state (item index part : Word) (s : State) :
    (takeRead item index part s).1 = s ∨
      (takeRead item index part s).1 = { s with noticesDropped := false, droppedCount := 0 } := by
  unfold takeRead
  split
  iterate 6 exact .inl (readIndexed_state _ _ _ s)
  iterate 2 exact .inl rfl
  · exact .inl (takeReadPendingEntry_state part index s)
  iterate 2 exact .inl rfl
  · exact .inr rfl
  · exact .inl rfl

theorem takeRead_leads (item index part : Word) (s : State) : s.Leads (takeRead item index part s).1 := by
  rcases takeRead_state item index part s with h | h
  · rw [h]; exact .refl s
  · rw [h]; exact .write_frame (.clearDropped s) (by rfl)

theorem staleCountsBounded_zero (n : Nat) : StaleCountsBounded (List.replicate n 0) := by
  intro k
  simp only [List.getD_eq_getElem?_getD, List.getElem?_replicate]
  split <;> simp

theorem takeRestart_leads (s : State) : s.Leads (takeRestart s).1 := by
  have failures : s.Leads s.restartPaths :=
    .trans (.write (.failures s 0 (by omega)))
      (.trans (.write (.staleCounts _ _ fun _ => staleCountsBounded_zero headCount)) (.frame (by rfl)))
  have rows : s.restartPaths.Leads s.restartPaths.restartProtection := by
    refine .write_frame (.rows _ (s.rowRuntimes.map fun q => q.map fun _ => RowRuntime.initial) fun _ r q hq => ?_) (by rfl)
    simp only [List.getD_eq_getElem?_getD, List.getElem?_map] at hq
    cases h : s.rowRuntimes[r]? with
    | none => simp [h] at hq
    | some o =>
      cases o with
      | none => simp [h] at hq
      | some q' =>
        simp only [h, Option.map_some, Option.getD_some, Option.some.injEq] at hq
        simp [← hq, RowRuntime.initial]
  exact failures.trans (rows.trans (.trans (.write (.clearNotices _)) (.write_frame (.clearDropped _) (by rfl))))

theorem takeCommand_leads (c : Command) (s : State) : s.Leads (takeCommand c s).1 := by
  cases c with
  | load part index definedWord fields => exact takeLoad_leads part index definedWord fields s
  | discard => exact .frame (by rfl)
  | activate => exact takeActivate_leads s
  | site fields => exact takeSite_leads fields s
  | lane lane onWord modeWord given setpoint => exact takeLane_leads _ _ _ _ _ s
  | clear seenOption r0 r1 r2 r3 lanes zones => exact takeClear_leads _ _ _ _ s
  | read item index part => exact takeRead_leads item index part s
  | restart => exact takeRestart_leads s
  | unknown => exact .refl s

theorem State.takeCommands_leads (fuel : Nat) (s : State) : s.Leads (s.takeCommands fuel) := by
  induction fuel generalizing s with
  | zero => exact .refl s
  | succ fuel ih =>
    unfold State.takeCommands
    split
    · exact .refl s
    · split
      · exact .refl s
      · rename_i c _ _
        have taken := takeCommand_leads (decodeCommand c.payload) s
        split
        · rename_i s' h
          rw [h] at taken
          exact taken
        · rename_i s' r d h
          rw [h] at taken
          exact (taken.trans (.write (.completeHead s' r d))).trans (ih _)

theorem State.submit_leads (s : State) (tag : Tag) (payload : List Word) : s.Leads (s.submit tag payload) := by
  unfold State.submit
  split
  · rename_i h
    exact .trans (.write (.keepCommand s _ h)) (State.takeCommands_leads _ _)
  · exact .write (.refuseCommand s tag)

theorem State.arrive_leads (s : State) (tag : Tag) (ws : List Word) : s.Leads (s.arrive tag ws) :=
  .ite (.refl s) (s.submit_leads tag _)


/-! ### The drive path -/

theorem State.countTaken_leads (s : State) (hold : Bool) : s.Leads (s.countTaken hold) := by
  refine .write_frame (.linkStatistics s _ fun h => ?_) (by rfl)
  obtain ⟨-, hcheck, hunknown⟩ := h
  exact ⟨saturatingSucc_le _ _, hcheck, hunknown⟩

theorem State.takeDrive_leads (s : State) (lane : BitVec 3) (hold : Bool) (sequence : Word) (samples : List Word) :
    s.Leads (s.takeDrive lane hold sequence samples) := by
  refine .ite (.frame (by rfl)) (.write (.linkStatistics s _ fun h => ?_))
  obtain ⟨htaken, hcheck, -⟩ := h
  exact ⟨htaken, hcheck, saturatingSucc_le _ _⟩

theorem State.takeFrame_leads (s : State) (f : ForwardFrame) : s.Leads (s.takeFrame f) := by
  cases f with
  | drive lane hold low sequence samples => exact (s.countTaken_leads hold).trans (State.takeDrive_leads _ _ _ _ _)
  | command hold tag payload => exact (s.countTaken_leads hold).trans (State.submit_leads _ _ _)
  | filler hold => exact s.countTaken_leads hold

theorem State.enterSearch_leads (s : State) : s.Leads s.enterSearch :=
  .trans (.frame (by rfl)) (.ite (State.muteLanes_leads { s with link := .search }) (.refl _))

theorem State.goodFrame_leads (s : State) (f : ForwardFrame) : s.Leads (s.goodFrame f) := by
  unfold State.goodFrame
  split
  · exact .refl s
  · exact .ite (.trans (.frame (by rfl)) (State.takeFrame_leads _ f)) (.frame (by rfl))
  · exact .trans (.frame (by rfl)) (State.takeFrame_leads _ f)

theorem State.countCheckFailure_leads (s : State) : s.Leads s.countCheckFailure := by
  refine .write (.linkStatistics s _ fun h => ?_)
  obtain ⟨htaken, -, hunknown⟩ := h
  exact ⟨htaken, saturatingSucc_le _ _, hunknown⟩

theorem State.badFrame_leads (s : State) : s.Leads s.badFrame := by
  unfold State.badFrame
  split
  · exact .refl s
  · exact s.countCheckFailure_leads.trans (State.enterSearch_leads _)
  · have counted : s.Leads { s.countCheckFailure with badFrames := s.badFrames + 1 } :=
      s.countCheckFailure_leads.trans (.frame (by rfl))
    exact .ite (counted.trans (State.enterSearch_leads _)) counted

theorem State.missMark_leads (s : State) : s.Leads s.missMark := .ite (.refl s) s.enterSearch_leads

theorem State.findMark_leads (s : State) : s.Leads s.findMark := .ite (.frame (by rfl)) (.refl s)

theorem State.removeReturn_leads (s : State) (item : ReturnItem) : s.Leads (s.removeReturn item) := by
  cases item with
  | notice n => exact .write (.sendNotice s)
  | refusal r => exact .write (.sendRefusal s)
  | reply r => exact .write (.sendReply s)
  | snapshot p => exact .frame (by rfl)
  | filler => exact .refl s

theorem State.returnBoundary_leads (s : State) : s.Leads s.returnBoundary :=
  (s.removeReturn_leads s.pickReturn).trans (.frame (by rfl))

theorem State.inhibitFall_leads (s : State) : s.Leads s.inhibitFall :=
  .trans (.frame (by rfl)) (.ite (.refl { s with inhibitLow := true, forceInhibit := true }) (State.muteLanes_leads _))

theorem State.arcFall_leads (s : State) : s.Leads s.arcFall := .ite (.frame (by rfl)) (.frame (by rfl))

theorem State.arcRise_leads (s : State) : s.Leads s.arcRise := .ite (.trans (.frame (by rfl)) (.write (.queueNotice _ _))) (.frame (by rfl))

theorem State.countLate_leads (s : State) : s.Leads s.countLate := by
  refine .write (.sweepStatistics s _ fun h => ?_)
  obtain ⟨h1, h2, h3, h4, h5, -⟩ := h
  exact ⟨h1, h2, h3, h4, h5, saturatingSucc_le _ _⟩

/-! ### The evaluation -/

theorem midEvent_leads (e : MidEvent) (s : State) : s.Leads (midEvent e s) := by
  cases e with
  | openingMark => exact s.findMark_leads
  | goodFrame f => exact s.goodFrame_leads f
  | badFrame => exact s.badFrame_leads
  | missingMark => exact s.missMark_leads
  | lanePortBoundary => exact .frame (by rfl)
  | returnBoundary => exact s.returnBoundary_leads
  | inhibitFall => exact s.inhibitFall_leads
  | inhibitRise => exact .frame (by rfl)
  | arcFall => exact s.arcFall_leads
  | arcRise => exact s.arcRise_leads
  | loopReturn words => exact s.countLate_leads

/-- What every event keeps, the events at one place of an evaluation keep. -/
theorem eventsAt_keeps {P : State → Prop} (hP : ∀ e s, P s → P (midEvent e s)) (during : During) (p : EvalPoint)
    {s : State} (hs : P s) : P (eventsAt during p s) := by
  unfold eventsAt
  generalize (during.filter fun e => e.1 == p).map (fun e => e.2) = events
  induction events generalizing s with
  | nil => exact hs
  | cons e rest ih => exact ih (hP e s hs)

theorem eventsAt_leads (during : During) (p : EvalPoint) (s : State) : s.Leads (eventsAt during p s) :=
  eventsAt_keeps (P := fun t => s.Leads t) (fun e t h => h.trans (midEvent_leads e t)) during p (.refl s)

theorem State.failedSweep_leads (s : State) (sweep : SweepNo) : s.Leads (s.failedSweep sweep) := by
  have counted : s.Leads { s with consecutiveFailures := saturatingSucc 65535 s.consecutiveFailures } :=
    .write (.failures s _ (saturatingSucc_le _ _))
  unfold State.failedSweep
  dsimp only
  have blind (t u : State) (h : s.Leads u) (p : Prop) [Decidable p] (k : t.queues = u.queues) :
      s.Leads (if p then t else u) := .ite (h.trans (.frame k)) h
  refine blind _ _ ?_ _ rfl
  exact .ite (.trans (counted.trans (.frame (by rfl))) (.write (.queueNotice _ _))) counted

theorem State.validSweep_leads (s : State) (sweep : SweepNo) : s.Leads (s.validSweep sweep) := by
  have ended : s.Leads { s with consecutiveFailures := 0, blindMute := false } :=
    .write_frame (.failures s 0 (by omega)) (by rfl)
  exact .ite (.trans (ended.trans (.frame (by rfl))) (.write (.queueNotice _ _))) ended

theorem staleCountsBounded_set {counts : List Nat} {n : Nat} (hn : n ≤ 255) (k : Nat) (h : StaleCountsBounded counts) :
    StaleCountsBounded (counts.set k n) := by
  intro j
  have hj := h j
  simp only [List.getD_eq_getElem?_getD, List.getElem?_set] at hj ⊢
  split
  · split
    · exact hn
    · exact Nat.zero_le _
  · exact hj

theorem countStale_leads (sweep : SweepNo) (fresh : List (Option HeadRecord)) (k : Nat) (s : State) :
    s.Leads (countStale sweep fresh k s) := by
  unfold countStale
  extract_lets count lost t
  have hcount : count ≤ 255 := by
    unfold count
    split
    · exact saturatingSucc_le _ _
    · exact Nat.zero_le _
  have counted : s.Leads t := .write_frame (.staleCounts s _ (staleCountsBounded_set hcount k)) (by rfl)
  exact .ite counted (counted.trans (.write (.queueNotice _ _)))

theorem State.deferActivation_leads (s : State) (w : WaitingActivation) (b : Blocking) :
    s.Leads (s.deferActivation w b) :=
  .ite (.trans (.frame (by rfl)) (.write (.completeHead { s with waiting := none } _ _))) (.frame (by rfl))

theorem assertionsBounded_map {rows : List (Option RowRuntime)} {op : Option RowRuntime → Nat → Option RowRuntime}
    (hop : ∀ o i q', op o i = some q' → q'.assertions ≤ 65535 ∨ ∃ q, o = some q ∧ (q.assertions ≤ 65535 → q'.assertions ≤ 65535))
    (h : AssertionsBounded rows) : AssertionsBounded (rows.zipIdx.map fun (q, r) => op q r) := by
  intro r q' hq
  simp only [List.getD_eq_getElem?_getD, List.getElem?_map, List.getElem?_zipIdx] at hq
  cases ho : rows[r]? with
  | none => simp [ho] at hq
  | some o =>
    simp only [ho, Option.map_some, Option.getD_some, Nat.zero_add] at hq
    rcases hop o r q' hq with hle | ⟨q, rfl, hle⟩
    · exact hle
    · exact hle (h r q (by simp [List.getD_eq_getElem?_getD, ho]))

/-- A row's assertions stay within their range where an application carries or restarts it (R75). -/
theorem carryRow_assertions {old new : Option RowEntry} {o : Option RowRuntime} {q' : RowRuntime}
    (h : carryRow old new o = some q') :
    q'.assertions ≤ 65535 ∨ ∃ q, o = some q ∧ (q.assertions ≤ 65535 → q'.assertions ≤ 65535) := by
  unfold carryRow at h
  split at h
  · split at h <;> obtain rfl := Option.some.inj h
    · exact .inr ⟨_, rfl, id⟩
    · exact .inl (Nat.zero_le _)
  · obtain rfl := Option.some.inj h
    exact .inl (Nat.zero_le _)
  · cases h

/-- An assertion saturates the count, and no other advance moves it (R62). -/
theorem rowStep_assertions (s : State) (sweep : SweepNo) (r : Nat) (q : RowRuntime) (h : q.assertions ≤ 65535) :
    (s.rowStep sweep r q).1.assertions ≤ 65535 := by
  unfold State.rowStep
  split
  · split
    · unfold advanceRow
      dsimp only
      split
      · exact saturatingSucc_le _ _
      · exact h
    · exact h
  · exact h

section Meanwhile

variable {m : Meanwhile} (hm : ∀ p s, State.Leads s (m p s))
include hm

theorem classify_leads (sweep : SweepNo) (records : Option (List HeadRecord)) (s : State) :
    s.Leads (classify sweep records s m).1 := by
  cases records with
  | none => exact (s.failedSweep_leads sweep).trans (hm _ _)
  | some records =>
    refine .trans (.frame (by rfl)) (.trans ((State.validSweep_leads _ sweep).trans (hm .failureCount _))
      (.forEach (fun k t => (countStale_leads sweep _ k t).trans (hm _ _)) _ _))

theorem State.carryRows_leads (s : State) (new : TableSet) (sweep : SweepNo) :
    s.Leads (s.carryRows new sweep m) := by
  refine .trans (.write (.rows s _ fun h => ?_)) (State.queueEach_leads (fun r => hm _) _ _ _)
  exact assertionsBounded_map (op := fun q r => carryRow (s.activeSet.row r) (new.row r) q)
    (fun o i q' hq => carryRow_assertions hq) h

theorem State.applyActivation_leads (s : State) (w : WaitingActivation) (sweep : SweepNo) :
    s.Leads (s.applyActivation w sweep m) :=
  (s.carryRows_leads hm w.tables sweep).trans
    (.trans (.write (.serve _)) (.trans (.frame (by rfl)) (.write (.completeHead _ _ _))))

theorem activationStage_leads (sweep : SweepNo) (s : State) : s.Leads (activationStage sweep s m).1 := by
  unfold activationStage
  split
  · exact .refl s
  · split
    · exact s.deferActivation_leads _ _
    · exact s.applyActivation_leads hm _ sweep

theorem openingStages_leads (sweep : SweepNo) (records : Option (List HeadRecord)) (s : State) :
    s.Leads (openingStages sweep records m s).1 :=
  .trans (.frame (by rfl)) (.trans (hm .begun (s.beginEvaluation sweep)) (.trans (classify_leads hm sweep records _)
    (.trans (hm .classification _) (.trans (activationStage_leads hm sweep _) (hm .activation _)))))

theorem rowStage_leads (sweep : SweepNo) (s : State) : s.Leads (rowStage sweep s m).1 := by
  refine .trans (.write (.rows s _ fun h => ?_)) (State.queueEach_leads (fun r => hm _) _ _ _)
  refine assertionsBounded_map (op := fun q r => q.map fun q => (s.rowStep sweep r q).1) (fun o i q' hq => ?_) h
  obtain ⟨q, rfl, rfl⟩ := Option.map_eq_some_iff.mp hq
  exact .inr ⟨q, rfl, rowStep_assertions s sweep i q⟩

omit hm in
theorem restrikeLane_leads (l : Nat) (s : State) : s.Leads (restrikeLane l s) := .ite (.frame (by rfl)) (.refl s)

omit hm in
theorem State.endBlanking_leads (s : State) (z : Nat) (sweep : SweepNo) : s.Leads (s.endBlanking z sweep) :=
  .trans (.frame (by rfl)) (.trans (.write (.queueNotice (s.setZone z { s.zone z with state := .normal, blankRemaining := 0 }) _))
    (.forEach restrikeLane_leads _ _))

omit hm in
theorem countDownZone_leads (sweep : SweepNo) (z : Nat) (s : State) : s.Leads (countDownZone sweep z s) :=
  .ite (.ite (s.endBlanking_leads z sweep) (.frame (by rfl))) (.refl s)

theorem blankingStep_leads (sweep : SweepNo) (s : State) : s.Leads (blankingStep sweep s m) :=
  .forEach (fun z t => (countDownZone_leads sweep z t).trans (hm _ _)) _ s

omit hm in
theorem blankLane_leads (l : Nat) (s : State) : s.Leads (blankLane l s) := .ite (.refl s) (.frame (by rfl))

omit hm in
theorem returnArcRow_leads (z : Nat) (sweep : SweepNo) (r : Nat) (s : State) : s.Leads (returnArcRow z sweep r s) := by
  unfold returnArcRow
  split
  · rename_i d q _ hq
    have returned : s.Leads (s.setRow r { q with phase := .idle, progress := 0 }) :=
      s.setRow_leads r _ fun h => h r q hq
    exact .ite (.ite (returned.trans (.write (.queueNotice _ _))) returned) (.refl s)
  · exact .refl s

theorem State.enterBlank_leads (s : State) (z : Nat) (history : List SweepNo) (sweep : SweepNo) :
    s.Leads (s.enterBlank z history sweep m) :=
  .trans (.frame (by rfl)) (.trans (.write (.queueNotice (s.setZone z ⟨.blank, _, history⟩) _))
    (.trans (.forEach blankLane_leads _ _) (.trans (hm _ _)
      (.forEach (fun r t => (returnArcRow_leads z sweep r t).trans (hm _ _)) _ _))))

theorem judgeZone_leads (sweep : SweepNo) (arcs : List Nat) (z : Nat) (s : State) :
    s.Leads (judgeZone sweep arcs z s m) := by
  have locked (history : List SweepNo) : s.Leads (s.enterLockout z history sweep) :=
    .trans (.frame (by rfl)) (.write (.queueNotice (s.setZone z ⟨.lockout, 0, history⟩) _))
  exact .ite (.ite ((locked _).trans (hm _ _)) (s.enterBlank_leads hm z _ sweep)) (.trans (.frame (by rfl)) (hm _ _))

omit hm in
theorem State.sampleArcLine_leads (s : State) (sweep : SweepNo) : s.Leads (s.sampleArcLine sweep) :=
  .ite (.trans (.frame (by rfl)) (.write (.queueNotice { s with arcMasked := true } _))) (.refl s)

theorem resolveArcLine_leads (c : Classified) (headZones : List Nat) (s : State) :
    s.Leads (resolveArcLine c headZones s m) := by
  have sampled : s.Leads (m .arcSampled (s.sampleArcLine c.sweep).decideRemoval) :=
    (s.sampleArcLine_leads c.sweep).trans (.trans (.frame (by rfl)) (hm _ _))
  exact .ite (.ite (sampled.trans (.write (.queueNotice _ _))) sampled) (.refl s)

theorem arcSteps_leads (c : Classified) (rowZones : List Nat) (s : State) : s.Leads (arcSteps c rowZones s m) :=
  .trans (.forEach (fun z t => judgeZone_leads hm c.sweep _ z t) _ s) ((hm _ _).trans (resolveArcLine_leads hm c _ _))

theorem measuringStages_leads (c : Classified) (s : State) : s.Leads (measuringStages c m s) :=
  .trans (.frame (by rfl)) (.trans (hm .pointUpdate (pointStage c s)) (.trans (rowStage_leads hm c.sweep _) (.trans (hm _ _)
    (.trans (blankingStep_leads hm c.sweep _) (.trans (hm _ _) (.trans (arcSteps_leads hm c _ _) (hm _ _)))))))

theorem settleStage_leads (s : State) : s.Leads (settleStage s m).1 :=
  .trans (.forEach (fun _ _ => (.frame (by rfl))) (List.range s.siteRecord.lanes) s)
    (.foldl (f := settleLane m) (fun p l => .trans (.frame (by rfl)) (hm (.settledLane l) _)) _
      (forEach (List.range s.siteRecord.lanes) composeLane s, []))

omit hm in
theorem completeLane_leads (sweep : SweepNo) (settled : List Settled) (demands grants : List Nat) (l : Nat) (s : State) :
    s.Leads (completeLane sweep settled demands grants l s) :=
  .ite (.frame (by rfl)) (.trans (.frame (t := s.setLaneScaled l _) (by rfl)) (State.queueNotice?_leads _ _))

theorem completeStage_leads (sweep : SweepNo) (settled : List Settled) (s : State) :
    s.Leads (completeStage sweep settled s m) :=
  .trans (.frame (by rfl)) (.forEach (fun l t => (completeLane_leads sweep settled _ _ l t).trans (hm _ _)) _ _)

omit hm in
theorem snapshotStage_leads (sweep : SweepNo) (s : State) : s.Leads (snapshotStage sweep s) :=
  .ite (.frame (by rfl)) (.ite (.frame (by rfl)) (.frame (by rfl)))

theorem handlingStages_leads (sweep : SweepNo) (s : State) : s.Leads (handlingStages sweep m s) :=
  (settleStage_leads hm s).trans ((hm _ _).trans ((completeStage_leads hm sweep _ _).trans
    ((snapshotStage_leads sweep _).trans (hm _ _))))

end Meanwhile

theorem State.evaluate_leads (s : State) (sweep : SweepNo) (records : Option (List HeadRecord)) (during : During) :
    s.Leads (s.evaluate sweep records during) :=
  (openingStages_leads (eventsAt_leads during) sweep records s).trans
    ((measuringStages_leads (eventsAt_leads during) _ _).trans (handlingStages_leads (eventsAt_leads during) sweep _))

theorem State.endEvaluation_leads (s : State) : s.Leads s.endEvaluation := by
  unfold State.endEvaluation
  split
  · exact .ite (.trans (.frame (by rfl)) (.ite (.frame (by rfl)) (.frame (by rfl)))) (.frame (by rfl))
  · exact .refl s

theorem State.drainCommands_leads (s : State) : s.Leads s.drainCommands := s.takeCommands_leads _

theorem State.completeEvaluation_leads (s : State) : s.Leads s.completeEvaluation :=
  .ite (s.endEvaluation_leads.trans (State.drainCommands_leads _)) (.refl s)

theorem State.launch_leads (s : State) : s.Leads s.launch := by
  refine .write_frame (.sweepStatistics s _ fun h => ?_) (by rfl)
  obtain ⟨-, h2, h3, h4, h5, h6⟩ := h
  exact ⟨saturatingSucc_le _ _, h2, h3, h4, h5, h6⟩

theorem State.countTimeout_leads (s : State) : s.Leads s.countTimeout := by
  refine .write (.sweepStatistics s _ fun h => ?_)
  obtain ⟨h1, -, h3, h4, h5, h6⟩ := h
  exact ⟨h1, saturatingSucc_le _ _, h3, h4, h5, h6⟩

theorem State.countFailure_leads (s : State) (j : Judgement) : s.Leads (s.countFailure j) := by
  cases j with
  | frameCheck =>
    refine .write (.sweepStatistics s _ fun ⟨h1, h2, _, h4, h5, h6⟩ => ?_)
    exact ⟨h1, h2, saturatingSucc_le _ _, h4, h5, h6⟩
  | late => exact s.countLate_leads
  | headerMismatch =>
    refine .write (.sweepStatistics s _ fun ⟨h1, h2, h3, _, h5, h6⟩ => ?_)
    exact ⟨h1, h2, h3, saturatingSucc_le _ _, h5, h6⟩
  | countMismatch =>
    refine .write (.sweepStatistics s _ fun ⟨h1, h2, h3, h4, _, h6⟩ => ?_)
    exact ⟨h1, h2, h3, h4, saturatingSucc_le _ _, h6⟩
  | valid records => exact .refl s

theorem State.takeReturn_leads (s : State) (ws : List Word) (during : During) : s.Leads (s.takeReturn ws during) := by
  unfold State.takeReturn
  split
  · exact s.countLate_leads
  · dsimp only
    split
    · exact s.countLate_leads
    · exact .trans (.frame (by rfl)) (State.evaluate_leads s.closeSweep _ _ during)
    · exact (s.countFailure_leads _).trans (.trans (.frame (by rfl)) (State.evaluate_leads (State.closeSweep _) _ _ during))

theorem State.tick_leads (s : State) (during : During) : s.Leads (s.tick during) := by
  refine s.completeEvaluation_leads.trans (.trans (.frame (t := s.completeEvaluation.beginInterval) (by rfl)) ?_)
  unfold State.tick
  dsimp only
  split
  · exact State.launch_leads _
  · exact (State.countTimeout_leads _).trans (.trans (.frame (by rfl)) ((State.evaluate_leads (State.closeSweep _) _ _ during).trans
      ((State.endEvaluation_leads _).trans ((State.launch_leads _).trans (State.drainCommands_leads _)))))

/-! ### The evaluation's own events, and every command -/

theorem State.abandonIfDue_leads (s : State) : s.Leads s.abandonIfDue := by
  unfold State.abandonIfDue
  split
  · exact .ite (.trans (.frame (by rfl)) (.trans (.write (.completeHead { s with waiting := none } _ _)) (State.drainCommands_leads _)))
      (.refl s)
  · exact .refl s

theorem State.noteLaneChange_leads (s : State) (l : Nat) (old : LaneState) : s.Leads (s.noteLaneChange l old) :=
  .ite (.refl s) (.trans (.frame (t := s.setLane l _) (by rfl)) (State.queueNotice?_leads _ _))

theorem State.endBlankingIfDue_leads (s : State) (z : Nat) : s.Leads (s.endBlankingIfDue z) :=
  .ite ((s.endBlanking_leads z _).trans (.forEach (fun l t => t.noteLaneChange_leads l _) _ _)) (.refl s)

theorem State.judgeProbeIfDue_leads (s : State) (l : Nat) : s.Leads (s.judgeProbeIfDue l) :=
  .ite (s.changeLane_leads l _) (.refl s)

theorem State.unlessReset_leads {f : State → State} (h : ∀ s, State.Leads s (f s)) (s : State) : s.Leads (s.unlessReset f) :=
  .ite (.refl s) (h s)

/-- Every command but RESET_N's two is a run of atomic writes. -/
theorem exec_leads (c : Instr) (s : State) (hfall : c ≠ .resetNAssert) (hrelease : ∀ p, c ≠ .resetNRelease p) :
    ∃ t, exec c s = .next t ∧ s.Leads t := by
  cases c
  case resetNAssert => exact absurd rfl hfall
  case resetNRelease p => exact absurd rfl (hrelease p)
  case openingMarkFound => exact ⟨_, rfl, s.unlessReset_leads State.findMark_leads⟩
  case goodFrameAligned f => exact ⟨_, rfl, s.unlessReset_leads (·.goodFrame_leads f)⟩
  case badCheckFrame => exact ⟨_, rfl, s.unlessReset_leads State.badFrame_leads⟩
  case missingOpeningMark => exact ⟨_, rfl, s.unlessReset_leads State.missMark_leads⟩
  case driveFrame => exact ⟨_, rfl, s.unlessReset_leads (·.goodFrame_leads _)⟩
  case commandFrame => exact ⟨_, rfl, s.unlessReset_leads (·.goodFrame_leads _)⟩
  case fillerFrame => exact ⟨_, rfl, s.unlessReset_leads (·.goodFrame_leads _)⟩
  case lanePortFrameBoundary => exact ⟨_, rfl, s.unlessReset_leads fun _ => (.frame (by rfl))⟩
  case returnFrameBoundary => exact ⟨_, rfl, s.unlessReset_leads State.returnBoundary_leads⟩
  case inhibitNAssert => exact ⟨_, rfl, .ite (.frame (by rfl)) s.inhibitFall_leads⟩
  case inhibitNDeassert => exact ⟨_, rfl, .ite (.frame (by rfl)) (.frame (by rfl))⟩
  case arcNFall => exact ⟨_, rfl, .ite (.frame (by rfl)) s.arcFall_leads⟩
  case arcNRise => exact ⟨_, rfl, .ite (.frame (by rfl)) s.arcRise_leads⟩
  case sweepTick during => exact ⟨_, rfl, s.unlessReset_leads (·.tick_leads during)⟩
  case sweepReturn ws during => exact ⟨_, rfl, s.unlessReset_leads (·.takeReturn_leads ws during)⟩
  case activationAbandon => exact ⟨_, rfl, s.unlessReset_leads State.abandonIfDue_leads⟩
  case blankingEnd z => exact ⟨_, rfl, s.unlessReset_leads (·.endBlankingIfDue_leads z.toNat)⟩
  case probeJudgement l => exact ⟨_, rfl, s.unlessReset_leads (·.judgeProbeIfDue_leads l.toNat)⟩
  case snapshotBuild => exact ⟨_, rfl, s.unlessReset_leads fun t => .ite (.frame (by rfl)) (.refl t)⟩
  case evaluationComplete => exact ⟨_, rfl, s.unlessReset_leads State.completeEvaluation_leads⟩
  all_goals exact ⟨_, rfl, s.arrive_leads _ _⟩

end Sys2Proof.Machine

/-! PROOFS. The invariants of the notice queue, the command places, the counts and the phase: each is kept by every atomic
write, by a fall and by a release of RESET_N, and so by every step. -/

namespace Sys2Proof.Machine

open State (Leads)

/-! ### From the atomic writes to a step -/

/-- What every atomic write keeps and RESET_N's two commands establish, every step keeps. -/
theorem step_keeps {P : State → Prop} (hwrite : ∀ s t : State, s.Write t → P s → P t) (hfall : ∀ s : State, P s.cleared)
    (hrelease : ∀ (s : State) (p : Bool), P (s.release p)) {s t : State} (hs : P s) (hstep : step s = .next t) : P t := by
  unfold step at hstep
  split at hstep
  · cases hstep
    exact hs
  · rename_i c rest _
    have hpopped : P { s with pending := rest } := hwrite s _ (.frame rfl) hs
    by_cases hreset : c = .resetNAssert ∨ ∃ p, c = .resetNRelease p
    · rcases hreset with rfl | ⟨p, rfl⟩
      · cases hstep
        exact hfall _
      · cases hstep
        exact hrelease _ p
    · obtain ⟨u, hu, hleads⟩ := exec_leads c { s with pending := rest } (fun h => hreset (.inl h))
        fun p h => hreset (.inr ⟨p, h⟩)
      cases hu.symm.trans hstep
      exact hleads.keeps hwrite hpopped

/-! ### The notice queue (R174) -/

theorem State.queueNotice_of_queued {s : State} {n : Notice} (h : ∃ m, m ∈ s.notices ∧ m.subject = n.subject) :
    s.queueNotice n = { s with
      notices := s.notices.map fun m =>
        if m.subject = n.subject then { n with changes := min 255 (m.changes + 1) } else m } := by
  have hany : s.notices.any (fun m => m.subject == n.subject) = true := by simpa using h
  simp only [State.queueNotice, hany, if_true, Notice.coalesce, saturatingSucc_eq_min]

theorem State.queueNotice_of_room {s : State} {n : Notice} (h : ∀ m, m ∈ s.notices → m.subject ≠ n.subject)
    (hroom : s.notices.length < 16) :
    s.queueNotice n = { s with notices := s.notices ++ [{ n with changes := 1 }] } := by
  have hany : s.notices.any (fun m => m.subject == n.subject) = false := by simpa using h
  simp [State.queueNotice, hany, noticeCapacity, hroom]

theorem State.queueNotice_of_full {s : State} {n : Notice} (h : ∀ m, m ∈ s.notices → m.subject ≠ n.subject)
    (hfull : 16 ≤ s.notices.length) :
    s.queueNotice n = { s with noticesDropped := true, droppedCount := min 65535 (s.droppedCount + 1) } := by
  have hany : s.notices.any (fun m => m.subject == n.subject) = false := by simpa using h
  simp [State.queueNotice, hany, noticeCapacity, Nat.not_lt.mpr hfull, saturatingSucc_eq_min]

/-- The condition on the notices of a sound queue. -/
def NoticeListSound (ns : List Notice) : Prop :=
  ns.length ≤ noticeCapacity ∧ (ns.map (·.subject)).Nodup ∧ ∀ n ∈ ns, 1 ≤ n.changes ∧ n.changes ≤ 255

theorem noticeListSound_nil : NoticeListSound [] := ⟨Nat.zero_le _, List.nodup_nil, by simp⟩

/-- An update in place leaves the subjects as they are. -/
theorem NoticeListSound.update {ns : List Notice} (h : NoticeListSound ns) (n : Notice) :
    NoticeListSound (ns.map fun m =>
      if m.subject = n.subject then { n with changes := min 255 (m.changes + 1) } else m) := by
  obtain ⟨hlen, hnodup, hchanges⟩ := h
  refine ⟨by simpa using hlen, ?_, ?_⟩
  · have hsubjects : (ns.map fun m =>
        if m.subject = n.subject then { n with changes := min 255 (m.changes + 1) } else m).map (·.subject) =
        ns.map (·.subject) := by
      rw [List.map_map]
      refine List.map_congr_left fun m _ => ?_
      by_cases hm : m.subject = n.subject <;> simp [hm]
    rwa [hsubjects]
  · intro k hk
    obtain ⟨m, hm, rfl⟩ := List.mem_map.mp hk
    split
    · have := hchanges m hm
      dsimp only
      omega
    · exact hchanges m hm

theorem NoticeListSound.append {ns : List Notice} (h : NoticeListSound ns) {n : Notice}
    (hn : ∀ m, m ∈ ns → m.subject ≠ n.subject) (hroom : ns.length < 16) :
    NoticeListSound (ns ++ [{ n with changes := 1 }]) := by
  obtain ⟨hlen, hnodup, hchanges⟩ := h
  refine ⟨by simpa [noticeCapacity] using hroom, ?_, ?_⟩
  · rw [List.map_append, List.nodup_append]
    exact ⟨hnodup, List.nodup_singleton _, by simpa using hn⟩
  · intro k hk
    rcases List.mem_append.mp hk with hk | hk
    · exact hchanges k hk
    · obtain rfl := List.mem_singleton.mp hk
      exact ⟨Nat.le_refl 1, by simp⟩

theorem State.NoticesSound.queueNotice {s : State} (h : s.NoticesSound) (n : Notice) : (s.queueNotice n).NoticesSound := by
  by_cases hqueued : ∃ m, m ∈ s.notices ∧ m.subject = n.subject
  · rw [State.queueNotice_of_queued hqueued]
    exact NoticeListSound.update h n
  · have hnew : ∀ m, m ∈ s.notices → m.subject ≠ n.subject := fun m hm he => hqueued ⟨m, hm, he⟩
    by_cases hroom : s.notices.length < 16
    · rw [State.queueNotice_of_room hnew hroom]
      exact NoticeListSound.append h hnew hroom
    · rw [State.queueNotice_of_full hnew (Nat.not_lt.mp hroom)]
      exact h

theorem NoticeListSound.tail {ns : List Notice} (h : NoticeListSound ns) : NoticeListSound ns.tail := by
  obtain ⟨hlen, hnodup, hchanges⟩ := h
  exact ⟨Nat.le_trans (by simp) hlen, by simpa [List.map_tail] using hnodup.tail,
    fun n hn => hchanges n (List.mem_of_mem_tail hn)⟩

theorem State.Write.keeps_noticesSound {s t : State} (hw : s.Write t) (h : s.NoticesSound) : t.NoticesSound := by
  have same (t : State) (hn : t.notices = s.notices) : t.NoticesSound := by
    unfold State.NoticesSound
    rw [hn]
    exact h
  cases hw with
  | frame hq => exact same _ (congrArg (·.1) hq)
  | queueNotice n => exact h.queueNotice n
  | sendNotice => exact NoticeListSound.tail h
  | clearNotices => exact noticeListSound_nil
  | refuseCommand tag => exact same _ (s.refuseCommand_notices tag)
  | completeHead r d => exact same _ (s.completeHead_notices r d)
  | clearDropped | keepCommand _ _ | sendReply | sendRefusal | linkStatistics _ _ | sweepStatistics _ _ | failures _ _
  | staleCounts _ _ | rows _ _ | serve => exact h

/-- Settles O5: an update keeps the subjects, an addition finds room and its subject new, and a drop leaves the queue. -/
theorem stepKeepsNoticesSound : Obligations.StepKeepsNoticesSound := by
  unfold Obligations.StepKeepsNoticesSound
  refine ⟨fun s t hs hstep => ?_, fun s n => ⟨State.queueNotice_of_queued, fun hnew => ?_⟩⟩
  · exact step_keeps (P := State.NoticesSound) (fun _ _ => State.Write.keeps_noticesSound)
      (fun _ => noticeListSound_nil) (fun _ _ => noticeListSound_nil) hs hstep
  · exact ⟨State.queueNotice_of_room hnew, State.queueNotice_of_full hnew⟩

/-! ### Command places and the refusal record (R166, R167) -/

theorem State.PlacesSound.of_eq {s t : State} (h : s.PlacesSound) (hc : t.commands = s.commands)
    (hr : t.replies = s.replies) (hf : t.refusal = s.refusal) : t.PlacesSound := by
  unfold State.PlacesSound State.placesHeld
  rw [hc, hr, hf]
  exact h

theorem State.PlacesSound.refuseCommand {s : State} (h : s.PlacesSound) (tag : Tag) :
    (s.refuseCommand tag).PlacesSound := by
  obtain ⟨hplaces, hahead⟩ := h
  unfold State.refuseCommand
  split
  · refine ⟨hplaces, fun r hr => ?_⟩
    cases hr
    exact Nat.le_refl _
  · rename_i r hold
    refine ⟨hplaces, fun r' hr => ?_⟩
    cases hr
    exact hahead r hold

/-- A completed command's place passes to its reply. -/
theorem State.PlacesSound.completeHead {s : State} (h : s.PlacesSound) (r : ReplyResult) (d : ReplyData) :
    (s.completeHead r d).PlacesSound := by
  obtain ⟨hplaces, hahead⟩ := h
  unfold State.completeHead
  split
  · exact ⟨hplaces, hahead⟩
  · rename_i c rest hcommands
    refine ⟨?_, fun q hq => Nat.le_trans (hahead q hq) (by simp)⟩
    simp only [State.placesHeld, hcommands, List.length_cons, List.length_append, List.length_nil] at hplaces ⊢
    omega

theorem State.PlacesSound.sendReply {s : State} (h : s.PlacesSound) :
    State.PlacesSound { s with
      replies := s.replies.tail, refusal := s.refusal.map fun r => { r with ahead := r.ahead - 1 } } := by
  obtain ⟨hplaces, hahead⟩ := h
  refine ⟨Nat.le_trans ?_ hplaces, fun q hq => ?_⟩
  · simp [State.placesHeld]
  · obtain ⟨r, hr, rfl⟩ := Option.map_eq_some_iff.mp hq
    simpa using Nat.sub_le_sub_right (hahead r hr) 1

theorem State.Write.keeps_placesSound {s t : State} (hw : s.Write t) (h : s.PlacesSound) : t.PlacesSound := by
  cases hw with
  | frame hq =>
    exact h.of_eq (congrArg (·.2.2.1) hq) (congrArg (·.2.2.2.1) hq) (congrArg (·.2.2.2.2.1) hq)
  | queueNotice n =>
    exact h.of_eq (s.queueNotice_commands n) (s.queueNotice_replies n) (s.queueNotice_refusal n)
  | keepCommand c hroom =>
    refine ⟨?_, h.2⟩
    simp only [State.placesHeld, List.length_append, List.length_singleton] at hroom ⊢
    omega
  | refuseCommand tag => exact h.refuseCommand tag
  | completeHead r d => exact h.completeHead r d
  | sendReply => exact h.sendReply
  | sendRefusal => exact ⟨h.1, fun r hr => by cases hr⟩
  | sendNotice | clearNotices | clearDropped | linkStatistics _ _ | sweepStatistics _ _ | failures _ _
  | staleCounts _ _ | rows _ _ | serve => exact h

theorem placesSound_of_empty {s : State} (hc : s.commands = []) (hr : s.replies = []) (hf : s.refusal = none) :
    s.PlacesSound := by
  simp [State.PlacesSound, State.placesHeld, hc, hr, hf]

/-! ### The saturating counts -/

/-- The counts of `State.CountsBounded`, by the groups that the atomic writes write. -/
theorem State.countsBounded_iff (s : State) :
    s.CountsBounded ↔ s.linkStatistics.Bounded ∧ s.consecutiveFailures ≤ 65535 ∧ s.sweepStatistics.Bounded ∧
      s.droppedCount ≤ 65535 ∧ StaleCountsBounded s.staleCounts ∧ (∀ r, s.refusal = some r → r.count ≤ 65535) ∧
      AssertionsBounded s.rowRuntimes := by
  simp only [State.CountsBounded, LinkStatistics.Bounded, SweepStatistics.Bounded, StaleCountsBounded, AssertionsBounded,
    State.staleCount, State.rowRuntime, and_assoc]

theorem State.CountsBounded.of_eq {s t : State} (h : s.CountsBounded) (hlink : t.linkStatistics = s.linkStatistics)
    (hfail : t.consecutiveFailures = s.consecutiveFailures) (hsweep : t.sweepStatistics = s.sweepStatistics)
    (hdropped : t.droppedCount ≤ 65535) (hstale : t.staleCounts = s.staleCounts)
    (hrefusal : ∀ r, t.refusal = some r → r.count ≤ 65535) (hrows : t.rowRuntimes = s.rowRuntimes) :
    t.CountsBounded := by
  rw [State.countsBounded_iff] at h ⊢
  obtain ⟨h1, h2, h3, -, h5, -, h7⟩ := h
  rw [hlink, hfail, hsweep, hstale, hrows]
  exact ⟨h1, h2, h3, hdropped, h5, hrefusal, h7⟩

theorem State.CountsBounded.droppedCount {s : State} (h : s.CountsBounded) : s.droppedCount ≤ 65535 :=
  ((State.countsBounded_iff s).mp h).2.2.2.1

theorem State.CountsBounded.refusal {s : State} (h : s.CountsBounded) : ∀ r, s.refusal = some r → r.count ≤ 65535 :=
  ((State.countsBounded_iff s).mp h).2.2.2.2.2.1

theorem State.CountsBounded.queueNotice {s : State} (h : s.CountsBounded) (n : Notice) :
    (s.queueNotice n).CountsBounded := by
  unfold State.queueNotice
  split
  · exact h
  split
  · exact h
  · exact h.of_eq rfl rfl rfl (saturatingSucc_le _ _) rfl h.refusal rfl

theorem State.CountsBounded.refuseCommand {s : State} (h : s.CountsBounded) (tag : Tag) :
    (s.refuseCommand tag).CountsBounded := by
  unfold State.refuseCommand
  split <;> refine h.of_eq rfl rfl rfl h.droppedCount rfl (fun r hr => ?_) rfl <;> cases hr
  · exact Nat.le_of_ble_eq_true rfl
  · exact saturatingSucc_le _ _

theorem State.Write.keeps_countsBounded {s t : State} (hw : s.Write t) (h : s.CountsBounded) : t.CountsBounded := by
  obtain ⟨hlink, hfail, hsweep, hdropped, hstale, hrefusal, hrows⟩ := s.countsBounded_iff.mp h
  cases hw with
  | frame hq =>
    simp only [State.queues, Prod.mk.injEq] at hq
    obtain ⟨-, e1, -, -, e2, e3, e4, e5, e6, e7, -⟩ := hq
    exact h.of_eq e3 e5 e4 (e1 ▸ hdropped) e6 (e2 ▸ hrefusal) e7
  | queueNotice n => exact h.queueNotice n
  | clearDropped => exact h.of_eq rfl rfl rfl (Nat.zero_le _) rfl hrefusal rfl
  | refuseCommand tag => exact h.refuseCommand tag
  | completeHead r d =>
    obtain ⟨c, q, he⟩ := s.completeHead_eq r d
    exact he ▸ h
  | sendReply =>
    refine h.of_eq rfl rfl rfl hdropped rfl (fun q hq => ?_) rfl
    obtain ⟨r, hr, rfl⟩ := Option.map_eq_some_iff.mp hq
    exact hrefusal r hr
  | sendRefusal => exact h.of_eq rfl rfl rfl hdropped rfl (fun r hr => by cases hr) rfl
  | linkStatistics x hx =>
    exact (State.countsBounded_iff _).mpr ⟨hx hlink, hfail, hsweep, hdropped, hstale, hrefusal, hrows⟩
  | sweepStatistics x hx =>
    exact (State.countsBounded_iff _).mpr ⟨hlink, hfail, hx hsweep, hdropped, hstale, hrefusal, hrows⟩
  | failures n hn => exact (State.countsBounded_iff _).mpr ⟨hlink, hn, hsweep, hdropped, hstale, hrefusal, hrows⟩
  | staleCounts x hx =>
    exact (State.countsBounded_iff _).mpr ⟨hlink, hfail, hsweep, hdropped, hx hstale, hrefusal, hrows⟩
  | rows x hx => exact (State.countsBounded_iff _).mpr ⟨hlink, hfail, hsweep, hdropped, hstale, hrefusal, hx hrows⟩
  | keepCommand _ _ | sendNotice | clearNotices | serve => exact h

theorem assertionsBounded_none (n : Nat) : AssertionsBounded (List.replicate n none) := by
  intro r q hq
  simp only [List.getD_eq_getElem?_getD, List.getElem?_replicate] at hq
  split at hq <;> cases hq

theorem countsBounded_cleared (s : State) : s.cleared.CountsBounded := by
  have hrefusal : ∀ r, s.cleared.refusal = some r → r.count ≤ 65535 := fun r hr => by cases hr
  refine s.cleared.countsBounded_iff.mpr ⟨?_, Nat.zero_le _, ?_, Nat.zero_le _, staleCountsBounded_zero headCount,
    hrefusal, assertionsBounded_none rowCount⟩
  · exact ⟨Nat.zero_le _, Nat.zero_le _, Nat.zero_le _⟩
  · exact ⟨Nat.zero_le _, Nat.zero_le _, Nat.zero_le _, Nat.zero_le _, Nat.zero_le _, Nat.zero_le _⟩

/-- Settles O6: a place passes from a command to its reply and is freed when that is sent, and every count that rises is a
saturating one. -/
theorem stepKeepsPlacesSound : Obligations.StepKeepsPlacesSound := by
  unfold Obligations.StepKeepsPlacesSound
  refine ⟨fun s t hs hstep => ?_, fun s t hs hstep => ?_⟩
  · exact step_keeps (P := State.PlacesSound) (fun _ _ => State.Write.keeps_placesSound)
      (fun _ => placesSound_of_empty rfl rfl rfl) (fun _ _ => placesSound_of_empty rfl rfl rfl) hs hstep
  · exact step_keeps (P := State.CountsBounded) (fun _ _ => State.Write.keeps_countsBounded) countsBounded_cleared
      (fun s _ => countsBounded_cleared s) hs hstep

/-! ### The phase (R162) -/

theorem State.Write.keeps_service {s t : State} (hw : s.Write t) (h : s.phase = .service) : t.phase = .service := by
  cases hw with
  | frame hq =>
    simp only [State.queues, Prod.mk.injEq] at hq
    obtain ⟨-, -, -, -, -, -, -, -, -, -, e⟩ := hq
    exact e.trans h
  | queueNotice n => exact (s.queueNotice_phase n).trans h
  | refuseCommand tag => exact (s.refuseCommand_phase tag).trans h
  | completeHead r d => exact (s.completeHead_phase r d).trans h
  | serve => rfl
  | clearDropped | keepCommand _ _ | sendReply | sendRefusal | linkStatistics _ _ | sweepStatistics _ _ | failures _ _
  | staleCounts _ _ | rows _ _ | sendNotice | clearNotices => exact h

/-- Settles O8: the only write to the phase outside RESET_N's two commands is an application's, to SERVICE. -/
theorem serviceEndsOnlyByReset : Obligations.ServiceEndsOnlyByReset := by
  unfold Obligations.ServiceEndsOnlyByReset
  intro c s t hphase hexec
  by_cases hfall : c = .resetNAssert
  · exact .inr (.inl hfall)
  by_cases hrelease : ∃ p, c = .resetNRelease p
  · exact .inr (.inr hrelease)
  obtain ⟨u, hu, hleads⟩ := exec_leads c s hfall fun p h => hrelease ⟨p, h⟩
  cases hu.symm.trans hexec
  exact .inl (hleads.keeps (P := fun t => t.phase = .service) (fun _ _ => State.Write.keeps_service) hphase)

end Sys2Proof.Machine

/-! PROOFS. What a step can do to the lanes, the multipliers and the plan in force: the rules for one lane's change, and the
events that other blocks take, which reach the lanes only by muting them or by a command. -/

namespace Sys2Proof.Machine

/-! ### One lane's change -/

/-- A lane record that an event has moved from `old`: a change of state takes the entry sweep and drops the mark. -/
def Lane.arriving (v : Lane) (old : LaneState) (sweep : SweepNo) : Lane :=
  if old = v.state then v else { v with stateEntrySweep := sweep, restriking := false }

@[simp] theorem Lane.arriving_state (v : Lane) (old : LaneState) (sweep : SweepNo) :
    (v.arriving old sweep).state = v.state := by
  unfold Lane.arriving
  split <;> rfl

@[simp] theorem Lane.arriving_applied (v : Lane) (old : LaneState) (sweep : SweepNo) :
    (v.arriving old sweep).applied = v.applied := by
  unfold Lane.arriving
  split <;> rfl

@[simp] theorem Lane.arriving_target (v : Lane) (old : LaneState) (sweep : SweepNo) :
    (v.arriving old sweep).target = v.target := by
  unfold Lane.arriving
  split <;> rfl

@[simp] theorem Lane.arriving_onRequest (v : Lane) (old : LaneState) (sweep : SweepNo) :
    (v.arriving old sweep).onRequest = v.onRequest := by
  unfold Lane.arriving
  split <;> rfl

theorem Lane.arriving_of_same {v : Lane} {old : LaneState} (h : old = v.state) (sweep : SweepNo) :
    v.arriving old sweep = v := if_pos h

theorem Lane.arriving_of_other {v : Lane} {old : LaneState} (h : old ≠ v.state) (sweep : SweepNo) :
    v.arriving old sweep = { v with stateEntrySweep := sweep, restriking := false } := if_neg h

/-- A lane's change outside lane handling: the record and its multiplier, and then the notice. -/
theorem State.changeLane_eq (s : State) (l : Nat) (v : Lane) :
    s.changeLane l v =
      (s.setLaneScaled l (v.arriving (s.lane l).state s.lastEvaluation)).queueNotice?
        (laneChangeNotice l (s.lane l).state (v.arriving (s.lane l).state s.lastEvaluation)) := rfl

theorem State.changeLane_lanes (s : State) (l : Nat) (v : Lane) :
    (s.changeLane l v).lanes = s.lanes.set l (v.arriving (s.lane l).state s.lastEvaluation) := by
  simp [State.changeLane_eq]

theorem State.changeLane_multipliers (s : State) (l : Nat) (v : Lane) :
    (s.changeLane l v).multipliers = s.multipliers.set l (multiplierOf v.applied) := by
  simp [State.changeLane_eq]

theorem State.lane_of_lanes {s t : State} (h : t.lanes = s.lanes) (l : Nat) : t.lane l = s.lane l := by
  simp [State.lane, h]

theorem State.lane_of_set {s t : State} {l : Nat} {v : Lane} (h : t.lanes = s.lanes.set l v) (hl : l < s.lanes.length) :
    t.lane l = v := by
  simp [State.lane, h, hl]

theorem State.lane_of_set_ne {s t : State} {l k : Nat} {v : Lane} (h : t.lanes = s.lanes.set l v) (hk : l ≠ k) :
    t.lane k = s.lane k := by
  simp [State.lane, h, List.getD_eq_getElem?_getD, List.getElem?_set_ne hk]

theorem State.multiplier_of_multipliers {s t : State} (h : t.multipliers = s.multipliers) (l : Nat) :
    t.multiplier l = s.multiplier l := by
  simp [State.multiplier, h]

theorem State.multiplier_of_set {s t : State} {l m : Nat} (h : t.multipliers = s.multipliers.set l m)
    (hl : l < s.multipliers.length) : t.multiplier l = m := by
  simp [State.multiplier, h, hl]

theorem State.multiplier_of_set_ne {s t : State} {l k m : Nat} (h : t.multipliers = s.multipliers.set l m) (hk : l ≠ k) :
    t.multiplier k = s.multiplier k := by
  simp [State.multiplier, h, List.getD_eq_getElem?_getD, List.getElem?_set_ne hk]

/-- A record that is written over itself leaves the list. -/
theorem set_getD_self {α : Type} (xs : List α) (i : Nat) (d : α) : xs.set i (xs.getD i d) = xs := by
  apply List.ext_getElem?
  intro k
  rw [List.getElem?_set]
  split
  · rename_i h
    subst h
    split
    · rename_i hi
      simp [List.getD_eq_getElem?_getD, List.getElem?_eq_getElem hi]
    · rename_i hi
      simp [List.getElem?_eq_none (Nat.not_lt.mp hi)]
  · rfl

theorem multiplierOf_zero : multiplierOf 0 = 0 := by decide

/-! ### What the lanes and the plan stand in -/

/-- What the invariants of the lanes and of the plan look at. -/
def State.plant (s : State) :=
  (s.lanes, s.multipliers, s.siteRecord, s.activeSet, s.phase, s.waiting, s.evaluation.map (·.mutedSince))

@[simp] theorem State.queueNotice_plant (s : State) (n : Notice) : (s.queueNotice n).plant = s.plant := by
  simp [State.plant]

@[simp] theorem State.queueNotice?_plant (s : State) (n : Option Notice) : (s.queueNotice? n).plant = s.plant := by
  simp [State.plant]

@[simp] theorem State.completeHead_plant (s : State) (r : ReplyResult) (d : ReplyData) :
    (s.completeHead r d).plant = s.plant := by
  simp [State.plant]

@[simp] theorem State.refuseCommand_plant (s : State) (tag : Tag) : (s.refuseCommand tag).plant = s.plant := by
  simp [State.plant]

theorem State.evaluating_iff (s : State) : s.evaluating = (s.evaluation.map (·.mutedSince)).isSome := by
  simp [State.evaluating]

theorem State.evaluating_of_plant {s t : State} (h : t.plant = s.plant) : t.evaluating = s.evaluating := by
  rw [State.evaluating_iff, State.evaluating_iff]
  exact congrArg (·.2.2.2.2.2.2.isSome) h

theorem State.siteRecord_of_plant {s t : State} (h : t.plant = s.plant) : t.siteRecord = s.siteRecord :=
  congrArg (·.2.2.1) h

/-- `Q` is kept by whatever an event does to the lanes and the plan: nothing, muting a lane, or taking a command. -/
structure EventClosed (Q : State → Prop) : Prop where
  plant : ∀ s t : State, t.plant = s.plant → Q s → Q t
  mute : ∀ (l : Nat) (s : State), l < laneCount → Q s → Q (muteLane l s)
  submit : ∀ (s : State) (tag : Tag) (p : List Word), Q s → Q (s.submit tag p)

namespace EventClosed

variable {Q : State → Prop} (h : EventClosed Q)
include h

theorem muteLanes {s : State} (hs : Q s) : Q s.muteLanes :=
  forEach_keeps (fun l hl t ht => h.mute l t (List.mem_range.mp hl) ht) hs

theorem enterSearch {s : State} (hs : Q s) : Q s.enterSearch := by
  have hsearch : Q { s with link := .search } := h.plant s _ rfl hs
  unfold State.enterSearch
  dsimp only
  split
  · exact h.muteLanes hsearch
  · exact hsearch

theorem takeFrame {s : State} (f : ForwardFrame) (hs : Q s) : Q (s.takeFrame f) := by
  have counted (hold : Bool) : Q (s.countTaken hold) := h.plant s _ rfl hs
  cases f with
  | drive lane hold low sequence samples =>
    refine h.plant (s.countTaken hold) _ ?_ (counted hold)
    unfold State.takeFrame State.takeDrive
    dsimp only
    split <;> rfl
  | command hold tag payload => exact h.submit _ _ _ (counted hold)
  | filler hold => exact counted hold

theorem goodFrame {s : State} (f : ForwardFrame) (hs : Q s) : Q (s.goodFrame f) := by
  unfold State.goodFrame
  split
  · exact hs
  · split
    · exact h.takeFrame f (h.plant s _ rfl hs)
    · exact h.plant s _ rfl hs
  · exact h.takeFrame f (h.plant s _ rfl hs)

theorem badFrame {s : State} (hs : Q s) : Q s.badFrame := by
  have counted : Q { s.countCheckFailure with badFrames := s.badFrames + 1 } := h.plant s _ rfl hs
  unfold State.badFrame
  split
  · exact hs
  · exact h.enterSearch (h.plant s _ rfl hs)
  · dsimp only
    split
    · exact h.enterSearch counted
    · exact counted

theorem inhibitFall {s : State} (hs : Q s) : Q s.inhibitFall := by
  have low : Q { s with inhibitLow := true, forceInhibit := true } := h.plant s _ rfl hs
  unfold State.inhibitFall
  dsimp only
  split
  · exact low
  · exact h.muteLanes low

theorem midEvent (e : MidEvent) {s : State} (hs : Q s) : Q (midEvent e s) := by
  cases e with
  | openingMark =>
    refine h.plant s _ ?_ hs
    unfold Machine.midEvent State.findMark
    dsimp only
    split <;> rfl
  | goodFrame f => exact h.goodFrame f hs
  | badFrame => exact h.badFrame hs
  | missingMark =>
    unfold Machine.midEvent State.missMark
    dsimp only
    split
    · exact hs
    · exact h.enterSearch hs
  | lanePortBoundary => exact h.plant s _ rfl hs
  | returnBoundary =>
    refine h.plant s _ ?_ hs
    unfold Machine.midEvent State.returnBoundary
    dsimp only
    generalize s.pickReturn = item
    cases item <;> rfl
  | inhibitFall => exact h.inhibitFall hs
  | inhibitRise => exact h.plant s _ rfl hs
  | arcFall =>
    refine h.plant s _ ?_ hs
    unfold Machine.midEvent State.arcFall
    dsimp only
    split <;> rfl
  | arcRise =>
    refine h.plant s _ ?_ hs
    unfold Machine.midEvent State.arcRise
    dsimp only
    split
    · exact State.queueNotice_plant _ _
    · rfl
  | loopReturn words => exact h.plant s _ rfl hs

theorem eventsAt (during : During) (p : EvalPoint) {s : State} (hs : Q s) : Q (eventsAt during p s) :=
  eventsAt_keeps (fun e _ ht => h.midEvent e ht) during p hs

end EventClosed

/-! ### While an evaluation is in progress -/

/-- A command that comes in while an evaluation is in progress is kept or refused, and not taken (R168). -/
theorem State.submit_plant_of_evaluating {s : State} (h : s.evaluating = true) (tag : Tag) (p : List Word) :
    (s.submit tag p).plant = s.plant := by
  unfold State.submit
  split
  · have held : State.holdsCommands { s with commands := s.commands ++ [QueuedCommand.mk tag p] } = true := by
      simpa [State.holdsCommands, State.evaluating] using Or.inl (Or.inl h)
    rw [State.drainCommands, State.takeCommands_of_holds held]
    rfl
  · exact s.refuseCommand_plant tag

/-- `Q` holds only during an evaluation of a part with site record `r`, and is kept by what the first five stages and the
events meanwhile do to the lanes and the plan. -/
structure StageClosed (r : SiteRecord) (Q : State → Prop) : Prop where
  plant : ∀ s t : State, t.plant = s.plant → Q s → Q t
  evaluating : ∀ s : State, Q s → s.evaluating = true
  site : ∀ s : State, Q s → s.siteRecord = r
  mute : ∀ (l : Nat) (s : State), l < laneCount → Q s → Q (muteLane l s)
  activate : ∀ (s : State) (w : WaitingActivation), Q s → s.waiting = some w →
    ∀ t : State, Q t → Q { t with activeSet := w.tables, phase := .service, waiting := none }
  waiting : ∀ (s : State) (w : WaitingActivation) (n : Nat), Q s → s.waiting = some w →
    Q { s with waiting := none } ∧ Q { s with waiting := some { w with deferrals := n } }
  restrike : ∀ (l : Nat) (s : State), l < r.lanes → Q s → Q (restrikeLane l s)
  blank : ∀ (l : Nat) (s : State), l < r.lanes → Q s → Q (blankLane l s)

namespace StageClosed

variable {r : SiteRecord} {Q : State → Prop} (h : StageClosed r Q)
include h

theorem eventClosed : EventClosed Q where
  plant := h.plant
  mute := h.mute
  submit s tag p hs := h.plant s _ (State.submit_plant_of_evaluating (h.evaluating s hs) tag p) hs

theorem queueNotice {s : State} (n : Notice) (hs : Q s) : Q (s.queueNotice n) := h.plant s _ (by simp) hs

theorem queueNotice? {s : State} (n : Option Notice) (hs : Q s) : Q (s.queueNotice? n) := h.plant s _ (by simp) hs

theorem failedSweep {s : State} (sweep : SweepNo) (hs : Q s) : Q (s.failedSweep sweep) := by
  have blind (t : State) (ht : Q t) (p : Prop) [Decidable p] : Q (if p then { t with blindMute := true } else t) := by
    split
    · exact h.plant t _ rfl ht
    · exact ht
  refine blind _ ?_ _
  split
  · exact h.queueNotice _ (h.plant s _ rfl hs)
  · exact h.plant s _ rfl hs

theorem validSweep {s : State} (sweep : SweepNo) (hs : Q s) : Q (s.validSweep sweep) := by
  unfold State.validSweep
  dsimp only
  split
  · exact h.queueNotice _ (h.plant s _ rfl hs)
  · exact h.plant s _ rfl hs

theorem countStale (sweep : SweepNo) (fresh : List (Option HeadRecord)) (k : Nat) {s : State} (hs : Q s) :
    Q (countStale sweep fresh k s) := by
  unfold Machine.countStale
  extract_lets count lost t
  have counted : Q t := h.plant s _ rfl hs
  split
  · exact counted
  · exact h.queueNotice _ counted

theorem members {s : State} (hs : Q s) {z l : Nat} (hl : l ∈ s.activeSet.members s.siteRecord.lanes z) : l < r.lanes := by
  have := (List.mem_filter.mp hl).1
  rw [h.site s hs] at this
  exact List.mem_range.mp this

theorem countDownZone (sweep : SweepNo) (z : Nat) {s : State} (hs : Q s) : Q (countDownZone sweep z s) := by
  unfold Machine.countDownZone
  dsimp only
  split
  · split
    · exact forEach_keeps (fun l hl t ht => h.restrike l t (h.members hs hl) ht) (h.queueNotice _ (h.plant s _ rfl hs))
    · exact h.plant s _ rfl hs
  · exact hs

theorem returnArcRow (z : Nat) (sweep : SweepNo) (i : Nat) {s : State} (hs : Q s) : Q (returnArcRow z sweep i s) := by
  unfold Machine.returnArcRow
  split
  · split
    · dsimp only
      split
      · exact h.queueNotice _ (h.plant s _ rfl hs)
      · exact h.plant s _ rfl hs
    · exact hs
  · exact hs

section Meanwhile

variable {m : Meanwhile} (hm : ∀ p s, Q s → Q (m p s))
include hm

theorem queueEach {s : State} (is : List Nat) (notice : Nat → Option Notice) {place : Nat → EvalPoint} (hs : Q s) :
    Q (s.queueEach is notice fun i => m (place i)) :=
  forEach_keeps (fun i _ _ ht => hm (place i) _ (h.queueNotice? (notice i) ht)) hs

theorem classify (sweep : SweepNo) (records : Option (List HeadRecord)) {s : State} (hs : Q s) :
    Q (classify sweep records s m).1 := by
  cases records with
  | none => exact hm _ _ (h.failedSweep sweep hs)
  | some records =>
    exact forEach_keeps (fun k _ t ht => hm _ _ (h.countStale sweep _ k ht))
      (hm _ _ (h.validSweep sweep (h.plant s _ rfl hs)))

theorem applyActivation {s : State} {w : WaitingActivation} (hw : s.waiting = some w) (sweep : SweepNo) (hs : Q s) :
    Q (s.applyActivation w sweep m) := by
  have carried : Q (s.carryRows w.tables sweep m) := h.queueEach hm _ _ (h.plant s _ rfl hs)
  refine h.plant { s.carryRows w.tables sweep m with activeSet := w.tables, phase := .service, waiting := none } _ ?_
    (h.activate s w hs hw _ carried)
  simp only [State.applyActivation, State.completeHead_plant]
  rfl

theorem activationStage (sweep : SweepNo) {s : State} (hs : Q s) : Q (activationStage sweep s m).1 := by
  unfold Machine.activationStage
  split
  · exact hs
  · rename_i w hw
    split
    · rename_i b _
      have both (n : Nat) := h.waiting s w n hs hw
      show Q (s.deferActivation w b)
      unfold State.deferActivation
      split
      · exact h.plant { s with waiting := none } _ (State.completeHead_plant _ _ _) (both 0).1
      · exact (both _).2
    · exact h.applyActivation hm hw sweep hs

theorem blankingStep (sweep : SweepNo) {s : State} (hs : Q s) : Q (blankingStep sweep s m) :=
  forEach_keeps (fun z _ _ ht => hm _ _ (h.countDownZone sweep z ht)) hs

theorem enterBlank (z : Nat) (history : List SweepNo) (sweep : SweepNo) {s : State} (hs : Q s) :
    Q (s.enterBlank z history sweep m) := by
  refine forEach_keeps (fun i _ t ht => hm _ _ (h.returnArcRow z sweep i ht)) (hm _ _ ?_)
  have entered : Q ((s.setZone z ⟨.blank, s.activeSet.parameters.blankingCount, history⟩).queueNotice
      (zoneNotice z ⟨.blank, s.activeSet.parameters.blankingCount, history⟩ sweep)) := h.queueNotice _ (h.plant s _ rfl hs)
  exact forEach_keeps (fun l hl t ht => h.blank l t (h.members entered hl) ht) entered

theorem judgeZone (sweep : SweepNo) (arcs : List Nat) (z : Nat) {s : State} (hs : Q s) :
    Q (judgeZone sweep arcs z s m) := by
  unfold Machine.judgeZone
  dsimp only
  split
  · split
    · exact hm _ _ (h.queueNotice _ (h.plant s _ rfl hs))
    · exact h.enterBlank hm z _ sweep hs
  · exact hm _ _ (h.plant s _ rfl hs)

theorem resolveArcLine (c : Classified) (headZones : List Nat) {s : State} (hs : Q s) :
    Q (resolveArcLine c headZones s m) := by
  have decided (t : State) (ht : Q t) : Q t.decideRemoval :=
    h.plant t _ (by simp [State.plant, State.decideRemoval, Function.comp_def]) ht
  have sampled : Q (m .arcSampled (s.sampleArcLine c.sweep).decideRemoval) := by
    refine hm _ _ (decided _ ?_)
    unfold State.sampleArcLine
    split
    · exact h.queueNotice _ (h.plant s _ rfl hs)
    · exact hs
  unfold Machine.resolveArcLine
  split
  · dsimp only
    split
    · exact h.queueNotice _ sampled
    · exact sampled
  · exact hs

/-- The first five stages keep `Q` from the moment the evaluation has begun. -/
theorem stages (sweep : SweepNo) (records : Option (List HeadRecord)) {s : State}
    (hs : Q (s.beginEvaluation sweep)) :
    Q (measuringStages (openingStages sweep records m s).2 m (openingStages sweep records m s).1) := by
  have opened : Q (openingStages sweep records m s).1 :=
    hm _ _ (h.activationStage hm sweep (hm _ _ (h.classify hm sweep records (hm _ _ hs))))
  generalize openingStages sweep records m s = p at opened
  have points : Q (m .pointUpdate (pointStage p.2 p.1)) := hm _ _ (h.plant p.1 _ rfl opened)
  have rows : Q (rowStage p.2.sweep (m .pointUpdate (pointStage p.2 p.1)) m).1 :=
    h.queueEach hm _ _ (h.plant (m .pointUpdate (pointStage p.2 p.1)) _ rfl points)
  have zones := h.blankingStep hm p.2.sweep (hm .rowAdvance _ rows)
  exact hm _ _ (h.resolveArcLine hm _ _ (hm _ _ (forEach_keeps (fun z _ t ht => h.judgeZone hm _ _ z ht) (hm _ _ zones))))

end Meanwhile

end StageClosed

end Sys2Proof.Machine

/-! PROOFS. The scales stay safe (R5, R90, R99): outside lane handling each change of a lane hands its scales over; inside,
lanes below L are free from the fifth stage on until step 7 completes them, but for those an event has muted. -/

namespace Sys2Proof.Machine

/-! ### Safe records -/

/-- A lane record's scales are safe, whatever multiplier is held. -/
def Lane.Safe (v : Lane) : Prop :=
  v.applied ≤ v.target ∧ v.target ≤ 65536 ∧ (v.state.silent = true → v.target = 0) ∧
    (v.restriking = true → v.state = .ramp ∧ v.target = 0)

theorem State.laneSafe_iff (s : State) (l : Nat) :
    s.laneSafe l ↔ (s.lane l).Safe ∧ s.multiplier l = multiplierOf (s.lane l).applied := by
  simp only [State.laneSafe, Lane.Safe]
  tauto

theorem State.laneSafe_congr {s t : State} {l : Nat} (hlane : t.lane l = s.lane l)
    (hmultiplier : t.multiplier l = s.multiplier l) : t.laneSafe l ↔ s.laneSafe l := by
  rw [State.laneSafe_iff, State.laneSafe_iff, hlane, hmultiplier]

/-- With zero scales a record is safe when only a RAMP lane restrikes. -/
theorem Lane.safe_of_zero {v : Lane} (ht : v.target = 0) (ha : v.applied = 0)
    (hr : v.restriking = true → v.state = .ramp) : v.Safe :=
  ⟨by omega, by omega, fun _ => ht, fun h => ⟨hr h, ht⟩⟩

/-- A record with the same scales and state is as safe. -/
theorem Lane.Safe.of_same {v w : Lane} (h : v.Safe) (ha : w.applied = v.applied) (ht : w.target = v.target)
    (hs : w.state = v.state) (hr : w.restriking = v.restriking) : w.Safe := by
  unfold Lane.Safe
  rw [ha, ht, hs, hr]
  exact h

/-- What a lane that an event moves must meet to be safe afterwards; a change of state drops the mark. -/
theorem Lane.arriving_safe {v : Lane} {old : LaneState} {sweep : SweepNo} (ha : v.applied ≤ v.target)
    (ht : v.target ≤ 65536) (hs : v.state.silent = true → v.target = 0)
    (hr : old = v.state → v.restriking = true → v.state = .ramp ∧ v.target = 0) : (v.arriving old sweep).Safe := by
  by_cases h : old = v.state
  · rw [Lane.arriving_of_same h]
    exact ⟨ha, ht, hs, hr h⟩
  · rw [Lane.arriving_of_other h]
    exact ⟨ha, ht, hs, by simp⟩

/-! ### Safe states -/

theorem State.ScalesSafe.laneSafe {s : State} (h : s.ScalesSafe) {l : Nat} (hl : l < laneCount) : s.laneSafe l := h.2.2 l hl

theorem State.ScalesSafe.safe {s : State} (h : s.ScalesSafe) {l : Nat} (hl : l < laneCount) : (s.lane l).Safe :=
  ((s.laneSafe_iff l).mp (h.laneSafe hl)).1

theorem State.ScalesSafe.of_eq {s t : State} (h : s.ScalesSafe) (hl : t.lanes = s.lanes)
    (hm : t.multipliers = s.multipliers) : t.ScalesSafe := by
  obtain ⟨h1, h2, h3⟩ := h
  refine ⟨hl ▸ h1, hm ▸ h2, fun l hlt => ?_⟩
  exact (State.laneSafe_congr (State.lane_of_lanes hl l) (State.multiplier_of_multipliers hm l)).mpr (h3 l hlt)

/-- A lane whose new record is safe and handed over leaves the scales safe. -/
theorem State.ScalesSafe.of_set {s t : State} {l : Nat} {v : Lane} (h : s.ScalesSafe) (hlanes : t.lanes = s.lanes.set l v)
    (hmultipliers : t.multipliers = s.multipliers.set l (multiplierOf v.applied)) (hv : l < laneCount → v.Safe) :
    t.ScalesSafe := by
  obtain ⟨h1, h2, h3⟩ := h
  refine ⟨by simp [hlanes, h1], by simp [hmultipliers, h2], fun k hk => ?_⟩
  by_cases hkl : l = k
  · subst hkl
    rw [State.laneSafe_iff, State.lane_of_set hlanes (h1 ▸ hk), State.multiplier_of_set hmultipliers (h2 ▸ hk)]
    exact ⟨hv hk, rfl⟩
  · exact (State.laneSafe_congr (State.lane_of_set_ne hlanes hkl) (State.multiplier_of_set_ne hmultipliers hkl)).mpr
      (h3 k hk)

/-- A lane whose new record keeps the applied scale needs no handing over. -/
theorem State.ScalesSafe.setLane {s : State} {l : Nat} {v : Lane} (h : s.ScalesSafe)
    (ha : v.applied = (s.lane l).applied) (hv : l < laneCount → v.Safe) : (s.setLane l v).ScalesSafe := by
  refine h.of_set (v := v) rfl ?_ hv
  obtain ⟨-, hlength, hsafe⟩ := h
  by_cases hl : l < laneCount
  · obtain ⟨-, hheld⟩ := (s.laneSafe_iff l).mp (hsafe l hl)
    rw [ha, ← hheld]
    exact (set_getD_self s.multipliers l 0).symm
  · have hout : s.multipliers.length ≤ l := by omega
    exact (List.set_eq_of_length_le hout).symm

theorem State.ScalesSafe.changeLane {s : State} {l : Nat} {v : Lane} (h : s.ScalesSafe)
    (hv : l < laneCount → (v.arriving (s.lane l).state s.lastEvaluation).Safe) : (s.changeLane l v).ScalesSafe :=
  h.of_set (s.changeLane_lanes l v) (by rw [State.changeLane_multipliers, Lane.arriving_applied]) hv

theorem muteAtOnce_arriving_safe {v : Lane} (h : v.state.mutable = true) (sweep : SweepNo) :
    (v.muteAtOnce.arriving v.state sweep).Safe := by
  refine Lane.arriving_safe (Nat.le_refl 0) (Nat.zero_le _) (fun _ => rfl) fun hold => ?_
  have : v.state = .muted := hold
  rw [this] at h
  cases h

theorem State.ScalesSafe.muteLane {s : State} (h : s.ScalesSafe) (l : Nat) : (muteLane l s).ScalesSafe := by
  unfold Machine.muteLane
  split
  · rename_i hm
    exact (h.changeLane fun _ => muteAtOnce_arriving_safe hm _).of_eq rfl rfl
  · exact h

/-! ### Commands -/

theorem loadEntry_plant (s : State) (count : Nat) (part index : Word) (write : Nat → Option TableSet) :
    (loadEntry s count part index write).1.plant = s.plant := by
  unfold loadEntry
  split
  · split <;> rfl
  · rfl

theorem takeLoad_plant (part index definedWord : Word) (fields : List Word) (s : State) :
    (takeLoad part index definedWord fields s).1.plant = s.plant := by
  unfold takeLoad
  split
  iterate 7 exact loadEntry_plant s _ _ _ _
  rfl

theorem takeRead_plant (item index part : Word) (s : State) : (takeRead item index part s).1.plant = s.plant := by
  rcases takeRead_state item index part s with h | h
  · rw [h]
  · rw [h]
    rfl

/-- What each command that is taken keeps, with no activation waiting, taking commands keeps. -/
theorem takeCommands_keeps {Q : State → Prop} (hplant : ∀ s t : State, t.plant = s.plant → Q s → Q t)
    (htake : ∀ (c : Command) (s : State), s.waiting = none → Q s → Q (takeCommand c s).1) (fuel : Nat) {s : State}
    (hs : Q s) : Q (s.takeCommands fuel) := by
  induction fuel generalizing s with
  | zero => exact hs
  | succ fuel ih =>
    unfold State.takeCommands
    split
    · exact hs
    · rename_i hholds
      have hwaiting : s.waiting = none := by
        simp only [State.holdsCommands, State.activationPending, Bool.or_eq_true, not_or] at hholds
        simpa using hholds.1.2
      split
      · exact hs
      · rename_i c _ _
        have taken := htake (decodeCommand c.payload) s hwaiting hs
        split
        · rename_i s' h
          rw [h] at taken
          exact taken
        · rename_i s' r d h
          rw [h] at taken
          exact ih (hplant s' _ (State.completeHead_plant s' r d) taken)

/-- What each command that is taken keeps, a command's arrival keeps. -/
theorem submit_keeps {Q : State → Prop} (hplant : ∀ s t : State, t.plant = s.plant → Q s → Q t)
    (htake : ∀ (c : Command) (s : State), s.waiting = none → Q s → Q (takeCommand c s).1) (s : State) (tag : Tag)
    (p : List Word) (hs : Q s) : Q (s.submit tag p) := by
  unfold State.submit
  split
  · exact takeCommands_keeps hplant htake _ (hplant s _ rfl hs)
  · exact hplant s _ (s.refuseCommand_plant tag) hs

theorem State.ScalesSafe.plant {s t : State} (hp : t.plant = s.plant) (h : s.ScalesSafe) : t.ScalesSafe :=
  h.of_eq (congrArg (·.1) hp) (congrArg (·.2.1) hp)

theorem Lane.enterProbe_arriving_safe (v : Lane) (n : Nat) {old : LaneState} (hold : old ≠ .probe) (sweep : SweepNo) :
    ((v.enterProbe n).arriving old sweep).Safe :=
  Lane.arriving_safe (Nat.le_refl 0) (Nat.zero_le _) (fun _ => rfl) fun h => absurd h hold

theorem State.ScalesSafe.requestOn {s : State} (h : s.ScalesSafe) (l : Nat) : (s.requestOn l).ScalesSafe := by
  unfold State.requestOn
  dsimp only
  split
  · rename_i hoff
    split
    · refine h.changeLane fun hl => Lane.arriving_safe ?_ ?_ (fun _ => ?_) fun hsame => ?_
      · exact (h.safe hl).1
      · exact (h.safe hl).2.1
      · exact (h.safe hl).2.2.1 (by rw [hoff]; rfl)
      · rw [hoff] at hsame
        cases hsame
    · refine h.changeLane fun hl => ?_
      unfold Lane.turnedOn
      dsimp only
      split
      · exact Lane.enterProbe_arriving_safe _ _ (by rw [hoff]; simp) _
      · refine Lane.arriving_safe (Nat.le_refl 0) (Nat.zero_le _) (fun _ => rfl) fun hsame => ?_
        rw [hoff] at hsame
        cases hsame
  · exact h.setLane rfl fun hl => (h.safe hl).of_same rfl rfl rfl rfl

/-- A safe lane that is OFF does not restrike. -/
theorem Lane.Safe.not_restriking {v : Lane} (h : v.Safe) (hs : v.state ≠ .ramp) : v.restriking = false := by
  obtain ⟨-, -, -, hr⟩ := h
  exact Bool.eq_false_iff.mpr fun hmark => hs (hr hmark).1

theorem State.ScalesSafe.requestOff {s : State} (h : s.ScalesSafe) (l : Nat) : (s.requestOff l).ScalesSafe := by
  unfold State.requestOff
  dsimp only
  split
  · exact h.setLane rfl fun hl => (h.safe hl).of_same rfl rfl rfl rfl
  · refine h.changeLane fun hl => ?_
    refine Lane.arriving_safe (Nat.le_refl 0) (Nat.zero_le _) (fun _ => rfl) fun hsame hmark => ?_
    have hoff : (s.lane l).state = .off := hsame
    have : (s.lane l).restriking = true := hmark
    rw [(h.safe hl).not_restriking (by rw [hoff]; simp)] at this
    cases this

theorem State.ScalesSafe.takeLane {s : State} (h : s.ScalesSafe) (lane onWord modeWord given setpoint : Nat) :
    (takeLane lane onWord modeWord given setpoint s).1.ScalesSafe := by
  unfold Machine.takeLane
  split
  · exact h
  split
  · exact h
  split
  · exact h
  have operated : (s.setLane lane ((s.lane lane).operate modeWord given setpoint)).ScalesSafe :=
    h.setLane rfl fun hl => (h.safe hl).of_same rfl rfl rfl rfl
  dsimp only
  unfold State.requestOnOff
  split
  · exact operated.requestOn lane
  split
  · exact operated.requestOff lane
  · exact operated

theorem State.ScalesSafe.unlockLane {s : State} (h : s.ScalesSafe) {l : Nat} (hlocked : (s.lane l).state = .lockout) :
    (s.unlockLane l).ScalesSafe := by
  refine h.changeLane fun hl => ?_
  unfold Lane.unlock
  dsimp only
  split
  · refine Lane.arriving_safe (Nat.le_refl 0) (Nat.zero_le _) (fun _ => rfl) fun hsame => ?_
    rw [hlocked] at hsame
    cases hsame
  · obtain ⟨ha, ht, hs, -⟩ := h.safe hl
    refine Lane.arriving_safe ha ht (fun _ => hs (by rw [hlocked]; rfl)) fun hsame => ?_
    rw [hlocked] at hsame
    cases hsame

theorem State.ScalesSafe.clearLane {p : State × ClearTally} (h : p.1.ScalesSafe) (l : Nat) :
    (clearLane l p).1.ScalesSafe := by
  unfold Machine.clearLane
  dsimp only
  split
  · exact h
  split
  · rename_i hlocked
    refine h.changeLane fun _ => Lane.arriving_safe (Nat.le_refl 0) (Nat.zero_le _) (fun _ => rfl) fun hsame => ?_
    rw [hlocked.1] at hsame
    cases hsame
  split
  · exact h
  split
  · exact h.setLane rfl fun hl => (h.safe hl).of_same rfl rfl rfl rfl
  · exact h

/-- What a run over a list keeps of a state and what was found so far. -/
theorem foldl_keeps {α β : Type} {Q : State → Prop} {f : State × β → α → State × β}
    (hf : ∀ p a, Q p.1 → Q (f p a).1) (as : List α) {p : State × β} (hp : Q p.1) : Q (as.foldl f p).1 := by
  induction as generalizing p with
  | nil => exact hp
  | cons a as ih => exact ih (hf p a hp)

theorem State.ScalesSafe.clearZone {p : State × ClearTally} (h : p.1.ScalesSafe) (z : Nat) :
    (clearZone z p).1.ScalesSafe := by
  unfold Machine.clearZone
  dsimp only
  split
  · exact h
  split
  · refine foldl_keeps (Q := State.ScalesSafe) (f := fun q l => clearZoneLane l q) (fun q l hq => ?_) _ (p := (_, p.2))
      (h.plant (State.queueNotice_plant _ _))
    unfold Machine.clearZoneLane
    dsimp only
    split
    · rename_i hlocked
      exact hq.unlockLane hlocked.1
    · exact hq
  · exact h

@[simp] theorem State.setRow_plant (s : State) (r : Nat) (q : RowRuntime) : (s.setRow r q).plant = s.plant := rfl

@[simp] theorem State.setPoint_plant (s : State) (i : Nat) (p : PointRecord) : (s.setPoint i p).plant = s.plant := rfl

theorem clearRow_plant (atTaking : State) (seenOption : Bool) (r : Nat) (p : State × ClearTally) :
    (clearRow atTaking seenOption r p).1.plant = p.1.plant := by
  unfold clearRow
  split
  · rename_i d q _ _
    cases q.phase with
    | idle =>
      dsimp only
      split <;> simp only [State.setRow_plant]
    | pending => simp only [State.setRow_plant]
    | asserted | clearing =>
      dsimp only
      split
      · dsimp only
        split <;> simp only [State.setRow_plant, State.setPoint_plant, State.queueNotice_plant]
      · simp only [State.setRow_plant]
  · rfl

/-- A CLEAR keeps what each of its rows, zones and lanes keeps. -/
theorem takeClear_keeps {Q : State → Prop} (hplant : ∀ s t : State, t.plant = s.plant → Q s → Q t)
    (hzone : ∀ z (p : State × ClearTally), Q p.1 → Q (clearZone z p).1)
    (hlane : ∀ l (p : State × ClearTally), Q p.1 → Q (clearLane l p).1) (seenOption : Word) (rows : List Word)
    (lanes zones : Word) {s : State} (hs : Q s) : Q (takeClear seenOption rows lanes zones s).1 := by
  unfold takeClear
  dsimp only
  split
  · exact hs
  · refine foldl_keeps (f := fun q l => clearLane l q) (fun q l => hlane l q) _ ?_
    refine foldl_keeps (f := fun q z => clearZone z q) (fun q z => hzone z q) _ ?_
    exact foldl_keeps (f := fun q r => clearRow s (seenOption == 1) r q)
      (fun q r hq => hplant q.1 _ (clearRow_plant _ _ r q) hq) _ (p := (s, ClearTally.zero)) hs

theorem State.ScalesSafe.zeroBeyond {s : State} (h : s.ScalesSafe) : s.zeroBeyond.ScalesSafe := by
  refine forEach_keeps (fun l _ t ht => ht.of_set (v := (t.lane l).unscaled) rfl rfl fun hl => ?_) h
  exact Lane.safe_of_zero rfl rfl fun hmark => ((ht.safe hl).2.2.2 hmark).1

theorem State.ScalesSafe.takeSite {s : State} (h : s.ScalesSafe) (fields : List Word) :
    (takeSite fields s).1.ScalesSafe := by
  unfold Machine.takeSite
  split
  · exact h
  split
  · exact State.ScalesSafe.zeroBeyond (h.of_eq rfl rfl)
  · exact h

theorem restart_lane (s : State) (l : Nat) (hl : l < s.lanes.length) :
    (takeRestart s).1.lane l = (s.lane l).restarted s.lastEvaluation := by
  have hlanes : (takeRestart s).1.lanes = s.lanes.map fun v => v.restarted s.lastEvaluation := rfl
  simp [State.lane, hlanes, List.getD_eq_getElem?_getD, hl]

theorem State.ScalesSafe.takeRestart {s : State} (h : s.ScalesSafe) : (takeRestart s).1.ScalesSafe := by
  have hmultipliers : (Machine.takeRestart s).1.multipliers = List.replicate laneCount 0 := rfl
  have hlanes : (Machine.takeRestart s).1.lanes = s.lanes.map fun v => v.restarted s.lastEvaluation := rfl
  obtain ⟨hlength, -, -⟩ := h
  refine ⟨by simp [hlanes, hlength], by simp [hmultipliers], fun l hl => ?_⟩
  rw [State.laneSafe_iff, restart_lane s l (hlength ▸ hl)]
  refine ⟨Lane.safe_of_zero rfl rfl (by simp [Lane.restarted, Lane.initial]), ?_⟩
  simp [State.multiplier, hmultipliers, hl, Lane.restarted, Lane.initial, multiplierOf_zero]

theorem State.ScalesSafe.takeCommand {s : State} (h : s.ScalesSafe) (c : Command) : (takeCommand c s).1.ScalesSafe := by
  cases c with
  | load part index definedWord fields => exact h.plant (takeLoad_plant part index definedWord fields s)
  | discard => exact h.of_eq rfl rfl
  | activate =>
    show (takeActivate s).1.ScalesSafe
    unfold takeActivate
    split
    · exact h
    · dsimp only
      split
      · exact h
      · exact h.of_eq rfl rfl
  | site fields => exact h.takeSite fields
  | lane lane onWord modeWord given setpoint => exact h.takeLane _ _ _ _ _
  | clear seenOption r0 r1 r2 r3 lanes zones =>
    exact takeClear_keeps (fun _ _ hp ht => ht.plant hp) (fun z _ hp => hp.clearZone z) (fun l _ hp => hp.clearLane l) _ _ _ _ h
  | read item index part => exact h.plant (takeRead_plant item index part s)
  | restart => exact h.takeRestart
  | unknown => exact h

theorem State.scalesSafe_eventClosed : EventClosed State.ScalesSafe where
  plant _ _ hp h := h.plant hp
  mute l _ _ h := h.muteLane l
  submit := submit_keeps (fun _ _ hp h => h.plant hp) fun c _ _ h => h.takeCommand c

theorem State.ScalesSafe.drainCommands {s : State} (h : s.ScalesSafe) : s.drainCommands.ScalesSafe :=
  takeCommands_keeps (fun _ _ hp h => h.plant hp) (fun c _ _ h => h.takeCommand c) _ h

end Sys2Proof.Machine

namespace Sys2Proof.Machine

/-! ### Muting one lane -/

theorem muteLane_of_not {s : State} {l : Nat} (h : (s.lane l).state.mutable = false) : muteLane l s = s := by
  simp [muteLane, h]

theorem muteLane_of_mutable {s : State} {l : Nat} (h : (s.lane l).state.mutable = true) :
    muteLane l s = (s.changeLane l (s.lane l).muteAtOnce).noteMuted l := by
  simp [muteLane, h]

theorem muteLane_lanes {s : State} {l : Nat} (h : (s.lane l).state.mutable = true) :
    (muteLane l s).lanes = s.lanes.set l ((s.lane l).muteAtOnce.arriving (s.lane l).state s.lastEvaluation) := by
  rw [muteLane_of_mutable h]
  exact s.changeLane_lanes l _

theorem muteLane_multipliers {s : State} {l : Nat} (h : (s.lane l).state.mutable = true) :
    (muteLane l s).multipliers = s.multipliers.set l 0 := by
  rw [muteLane_of_mutable h, ← multiplierOf_zero]
  exact s.changeLane_multipliers l _

theorem muteLane_evaluation {s : State} {l : Nat} (h : (s.lane l).state.mutable = true) :
    (muteLane l s).evaluation = (s.noteMuted l).evaluation := by
  rw [muteLane_of_mutable h]
  simp [State.noteMuted]

theorem muteLane_siteRecord (l : Nat) (s : State) : (muteLane l s).siteRecord = s.siteRecord := by
  unfold muteLane
  split <;> simp

theorem muteLane_lane_ne {l k : Nat} (h : l ≠ k) (s : State) : (muteLane l s).lane k = s.lane k := by
  by_cases hm : (s.lane l).state.mutable = true
  · exact State.lane_of_set_ne (muteLane_lanes hm) h
  · rw [muteLane_of_not (Bool.eq_false_iff.mpr hm)]

theorem muteLane_multiplier_ne {l k : Nat} (h : l ≠ k) (s : State) : (muteLane l s).multiplier k = s.multiplier k := by
  by_cases hm : (s.lane l).state.mutable = true
  · exact State.multiplier_of_set_ne (muteLane_multipliers hm) h
  · rw [muteLane_of_not (Bool.eq_false_iff.mpr hm)]

theorem muteLane_lengths (l : Nat) (s : State) :
    (muteLane l s).lanes.length = s.lanes.length ∧ (muteLane l s).multipliers.length = s.multipliers.length := by
  by_cases hm : (s.lane l).state.mutable = true
  · rw [muteLane_lanes hm, muteLane_multipliers hm]
    simp
  · rw [muteLane_of_not (Bool.eq_false_iff.mpr hm)]
    exact ⟨rfl, rfl⟩

/-- A lane that an event mutes is safe at once. -/
theorem muteLane_laneSafe_self {s : State} {l : Nat} (hm : (s.lane l).state.mutable = true) (hl : l < s.lanes.length)
    (hl' : l < s.multipliers.length) : (muteLane l s).laneSafe l := by
  rw [State.laneSafe_iff, State.lane_of_set (muteLane_lanes hm) hl, State.multiplier_of_set (muteLane_multipliers hm) hl']
  refine ⟨muteAtOnce_arriving_safe hm _, ?_⟩
  rw [Lane.arriving_applied]
  exact multiplierOf_zero.symm

/-! ### Lanes below L during an evaluation -/

/-- The lanes that an event has muted since step 2, as the evaluation in progress lists them. -/
theorem State.mutedSince_eq (s : State) (l : Nat) :
    s.mutedSince l = ((s.evaluation.map (·.mutedSince)).getD []).getD l false := by
  unfold State.mutedSince
  split <;> simp_all

theorem State.mutedSince_noteMuted {s : State} {ms : List Bool} (h : s.evaluation.map (·.mutedSince) = some ms) (l : Nat) :
    (s.noteMuted l).evaluation.map (·.mutedSince) = some (ms.set l true) := by
  cases he : s.evaluation with
  | none => simp [he] at h
  | some e =>
    simp only [he, Option.map_some, Option.some.injEq] at h
    simp [State.noteMuted, he, h]

/-- An evaluation is in progress, the lanes stand in their places, and the lanes at or above L are safe. -/
def State.Evaluates (r : SiteRecord) (s : State) : Prop :=
  s.lanes.length = laneCount ∧ s.multipliers.length = laneCount ∧ s.siteRecord = r ∧
    (∃ ms, s.evaluation.map (·.mutedSince) = some ms ∧ ms.length = laneCount) ∧
    ∀ l, l < laneCount → r.lanes ≤ l → s.laneSafe l

/-- A settled lane is safe when an event has muted it since, and otherwise in no silent state when it settled in PROBE. -/
def State.SettledOk (s : State) (l : Nat) (x : Settled) : Prop :=
  (s.mutedSince l = true → s.laneSafe l) ∧
    (s.mutedSince l = false → ∀ entered, x = .probe entered → (s.lane l).state.silent = false)

theorem State.Evaluates.evaluating {r : SiteRecord} {s : State} (h : s.Evaluates r) : s.evaluating = true := by
  obtain ⟨-, -, -, ⟨ms, hms, -⟩, -⟩ := h
  rw [State.evaluating_iff, hms]
  rfl

theorem State.Evaluates.of_plant {r : SiteRecord} {s t : State} (hp : t.plant = s.plant) (h : s.Evaluates r) :
    t.Evaluates r := by
  simp only [State.plant, Prod.mk.injEq] at hp
  obtain ⟨hl, hm, hr, -, -, -, he⟩ := hp
  obtain ⟨h1, h2, h3, h4, h5⟩ := h
  refine ⟨hl ▸ h1, hm ▸ h2, hr ▸ h3, he ▸ h4, fun l hlt hle => ?_⟩
  exact (State.laneSafe_congr (State.lane_of_lanes hl l) (State.multiplier_of_multipliers hm l)).mpr (h5 l hlt hle)

/-- Writing a lane below L, with or without its multiplier, leaves the lanes at or above L. -/
theorem State.Evaluates.of_set {r : SiteRecord} {s t : State} {l : Nat} {v : Lane} (h : s.Evaluates r) (hl : l < r.lanes)
    (hlanes : t.lanes = s.lanes.set l v)
    (hmultipliers : t.multipliers = s.multipliers ∨ ∃ n, t.multipliers = s.multipliers.set l n)
    (hsite : t.siteRecord = s.siteRecord)
    (heval : ∀ ms, s.evaluation.map (·.mutedSince) = some ms →
      ∃ ns, t.evaluation.map (·.mutedSince) = some ns ∧ ns.length = ms.length) : t.Evaluates r := by
  obtain ⟨h1, h2, h3, ⟨ms, hms, h4⟩, h5⟩ := h
  obtain ⟨ns, hns, hlen⟩ := heval ms hms
  refine ⟨by simp [hlanes, h1], ?_, hsite.trans h3, ⟨ns, hns, hlen.trans h4⟩, fun k hk hle => ?_⟩
  · rcases hmultipliers with hm | ⟨n, hm⟩ <;> simp [hm, h2]
  · have hne : l ≠ k := by omega
    refine (State.laneSafe_congr (State.lane_of_set_ne hlanes hne) ?_).mpr (h5 k hk hle)
    rcases hmultipliers with hm | ⟨n, hm⟩
    · exact State.multiplier_of_multipliers hm k
    · exact State.multiplier_of_set_ne hm hne

theorem State.Evaluates.mute {r : SiteRecord} {s : State} {l : Nat} (hl : l < laneCount) (h : s.Evaluates r) :
    (muteLane l s).Evaluates r := by
  by_cases hm : (s.lane l).state.mutable = true
  · obtain ⟨h1, h2, h3, ⟨ms, hms, h4⟩, h5⟩ := h
    obtain ⟨hlanes, hmultipliers⟩ := muteLane_lengths l s
    refine ⟨hlanes.trans h1, hmultipliers.trans h2, (muteLane_siteRecord l s).trans h3, ⟨ms.set l true, ?_, by simpa using h4⟩,
      fun k hk hle => ?_⟩
    · rw [muteLane_evaluation hm]
      exact State.mutedSince_noteMuted hms l
    · by_cases hkl : l = k
      · subst hkl
        exact muteLane_laneSafe_self hm (h1 ▸ hl) (h2 ▸ hl)
      · exact (State.laneSafe_congr (muteLane_lane_ne hkl s) (muteLane_multiplier_ne hkl s)).mpr (h5 k hk hle)
  · rwa [muteLane_of_not (Bool.eq_false_iff.mpr hm)]

/-- A predicate that holds only during an evaluation meets no command that is taken. -/
theorem EventClosed.of_evaluating {Q : State → Prop} (hplant : ∀ s t : State, t.plant = s.plant → Q s → Q t)
    (hmute : ∀ (l : Nat) (s : State), l < laneCount → Q s → Q (muteLane l s))
    (heval : ∀ s, Q s → s.evaluating = true) : EventClosed Q where
  plant := hplant
  mute := hmute
  submit s tag p hs := hplant s _ (State.submit_plant_of_evaluating (heval s hs) tag p) hs

theorem State.evaluates_stageClosed (r : SiteRecord) : StageClosed r (State.Evaluates r) where
  plant _ _ hp h := h.of_plant hp
  evaluating _ h := h.evaluating
  site _ h := h.2.2.1
  mute _ _ hl h := h.mute hl
  activate _ _ _ _ _ h := h
  waiting _ _ _ h _ := ⟨h, h⟩
  restrike l s hl h := by
    unfold restrikeLane
    dsimp only
    split
    · exact h.of_set hl rfl (.inl rfl) rfl fun ms hms => ⟨ms, hms, rfl⟩
    · exact h
  blank l s hl h := by
    unfold blankLane
    dsimp only
    split
    · exact h
    · refine h.of_set hl (State.noteMoved_lanes _ _ _) (.inl rfl) rfl fun ms hms => ⟨ms, ?_, rfl⟩
      simpa [State.noteMoved, Function.comp_def] using hms

/-- Only what the plant holds of lane `l` matters to a settled lane. -/
theorem State.SettledOk.of_eq {s t : State} {l : Nat} {x : Settled} (h : s.SettledOk l x) (hlane : t.lane l = s.lane l)
    (hmultiplier : t.multiplier l = s.multiplier l) (hmuted : t.mutedSince l = s.mutedSince l) : t.SettledOk l x := by
  unfold State.SettledOk
  rw [State.laneSafe_congr hlane hmultiplier, hlane, hmuted]
  exact h

theorem State.SettledOk.of_plant {s t : State} (hp : t.plant = s.plant) {l : Nat} {x : Settled} (h : s.SettledOk l x) :
    t.SettledOk l x := by
  simp only [State.plant, Prod.mk.injEq] at hp
  obtain ⟨hl, hm, -, -, -, -, he⟩ := hp
  exact h.of_eq (State.lane_of_lanes hl l) (State.multiplier_of_multipliers hm l)
    (by rw [State.mutedSince_eq, State.mutedSince_eq, he])

theorem State.SettledOk.mute {r : SiteRecord} {s : State} (hs : s.Evaluates r) {k l : Nat} {x : Settled} (hl : l < laneCount)
    (h : s.SettledOk l x) : (muteLane k s).SettledOk l x := by
  by_cases hm : (s.lane k).state.mutable = true
  · obtain ⟨h1, h2, -, ⟨ms, hms, h4⟩, -⟩ := hs
    have hmuted (j : Nat) : (muteLane k s).mutedSince j = (ms.set k true).getD j false := by
      rw [State.mutedSince_eq, muteLane_evaluation hm, State.mutedSince_noteMuted hms k]
      rfl
    by_cases hkl : k = l
    · subst hkl
      have htrue : (muteLane k s).mutedSince k = true := by
        rw [hmuted]
        simp [h4 ▸ hl]
      refine ⟨fun _ => muteLane_laneSafe_self hm (h1 ▸ hl) (h2 ▸ hl), fun hfalse => ?_⟩
      rw [htrue] at hfalse
      cases hfalse
    · refine h.of_eq (muteLane_lane_ne hkl s) (muteLane_multiplier_ne hkl s) ?_
      rw [hmuted, State.mutedSince_eq, hms]
      simp [List.getD_eq_getElem?_getD, List.getElem?_set_ne hkl]
  · rwa [muteLane_of_not (Bool.eq_false_iff.mpr hm)]

/-! ### Step 2 -/

/-- A lane that settles in PROBE stands in PROBE. -/
theorem Lane.settle_probe {v : Lane} {x : Situation} {entered : Bool} (h : (v.settle x).2 = .probe entered) :
    (v.settle x).1.state = .probe := by
  unfold Lane.settle at h ⊢
  dsimp only at h ⊢
  split_ifs at h ⊢
  · rfl
  · assumption

/-- Steps 1 and 2 so far: the lanes settled are fit for completion. -/
def State.Settles (r : SiteRecord) (xs : List Settled) (s : State) : Prop :=
  s.Evaluates r ∧ ∀ l x, xs[l]? = some x → l < laneCount → s.SettledOk l x

theorem State.settles_eventClosed (r : SiteRecord) (xs : List Settled) : EventClosed (State.Settles r xs) := by
  refine .of_evaluating (fun s t hp h => ⟨h.1.of_plant hp, fun l x hx hl => (h.2 l x hx hl).of_plant hp⟩)
    (fun k s hk h => ⟨h.1.mute hk, fun l x hx hl => (h.2 l x hx hl).mute h.1 hl⟩) fun s h => h.1.evaluating

theorem State.beginSettled_mutedSince (s : State) (l k : Nat) :
    (s.beginSettled l).mutedSince k = (s.mutedSince k && !(l == k)) := by
  unfold State.mutedSince State.beginSettled
  cases s.evaluation with
  | none => rfl
  | some e =>
    simp only [Option.map_some, List.getD_eq_getElem?_getD, List.getElem?_set]
    by_cases h : l = k
    · subst h
      simp
      split <;> rfl
    · simp [h]

/-- Step 2 on lane `l`, the first not yet settled, with the events at its place. -/
theorem State.Settles.settleLane {r : SiteRecord} {m : Meanwhile}
    (hm : ∀ (xs : List Settled) p s, State.Settles r xs s → State.Settles r xs (m p s)) {p : State × List Settled} {l : Nat}
    (hl : l < r.lanes) (hlength : p.2.length = l) (h : p.1.Settles r p.2) :
    (settleLane m p l).1.Settles r (settleLane m p l).2 := by
  obtain ⟨heval, hsettled⟩ := h
  refine hm _ _ _ ⟨?_, fun k x hk hkc => ?_⟩
  · refine heval.of_set hl rfl (.inl rfl) rfl fun ms hms => ⟨ms.set l false, ?_, by simp⟩
    cases he : p.1.evaluation with
    | none => simp [he] at hms
    | some e =>
      simp only [he, Option.map_some, Option.some.injEq] at hms
      simp [State.beginSettled, he, hms]
  · have hmuted (t : State) (v : Lane) (j : Nat) : (t.setLane l v).mutedSince j = t.mutedSince j := rfl
    replace hk : (p.2 ++ [({ p.1.lane l with state := p.1.judgedState l }.settle (p.1.situation l)).2])[k]? = some x := hk
    by_cases hkl : l = k
    · subst hkl
      have hx : x = ({ p.1.lane l with state := p.1.judgedState l }.settle (p.1.situation l)).2 := by
        simpa [← hlength] using hk.symm
      have hfalse : (((p.1.beginSettled l).setLane l
          ({ p.1.lane l with state := p.1.judgedState l }.settle (p.1.situation l)).1)).mutedSince l = false := by
        rw [hmuted, State.beginSettled_mutedSince]
        simp
      refine ⟨fun htrue => ?_, fun _ entered hprobe => ?_⟩
      · rw [hfalse] at htrue
        cases htrue
      · rw [State.lane_setLane_self _ _ _ (by simpa using heval.1 ▸ hkc), Lane.settle_probe (hx ▸ hprobe)]
        rfl
    · have hbefore : p.2[k]? = some x := by
        have hkl' : k < l := by
          by_contra hge
          rw [List.getElem?_eq_none (by simp; omega)] at hk
          cases hk
        rwa [List.getElem?_append_left (hlength ▸ hkl')] at hk
      refine (hsettled k x hbefore hkc).of_eq (State.lane_setLane_ne _ _ hkl) rfl ?_
      rw [hmuted, State.beginSettled_mutedSince]
      simp [hkl]

/-- A run over the indices below `n`, with what it has kept after each. -/
theorem foldl_range {β : Type} {f : β → Nat → β} {P : Nat → β → Prop} (n : Nat) {b : β} (h0 : P 0 b)
    (hstep : ∀ k c, k < n → P k c → P (k + 1) (f c k)) : P n ((List.range n).foldl f b) := by
  induction n with
  | zero => exact h0
  | succ n ih =>
    rw [List.range_succ, List.foldl_append]
    exact hstep n _ (Nat.lt_succ_self n) (ih fun k c hk => hstep k c (Nat.lt_succ_of_lt hk))

theorem settleStage_settles {r : SiteRecord} {m : Meanwhile}
    (hm : ∀ (xs : List Settled) p s, State.Settles r xs s → State.Settles r xs (m p s)) {s : State} (h : s.Evaluates r) :
    (settleStage s m).1.Settles r (settleStage s m).2 ∧ (settleStage s m).2.length = r.lanes := by
  have hsite : s.siteRecord = r := h.2.2.1
  have composed : (forEach (List.range s.siteRecord.lanes) composeLane s).Evaluates r := by
    refine forEach_keeps (fun l hl t ht => ?_) h
    exact ht.of_set (hsite ▸ List.mem_range.mp hl) rfl (.inl rfl) rfl fun ms hms => ⟨ms, hms, rfl⟩
  have hrun := foldl_range (P := fun n p => p.1.Settles r p.2 ∧ p.2.length = n) (f := settleLane m) r.lanes
    (b := (forEach (List.range s.siteRecord.lanes) composeLane s, [])) ⟨⟨composed, by simp⟩, rfl⟩
    fun k p hk hp => ⟨hp.1.settleLane hm hk hp.2, by simp [settleLane, hp.2]⟩
  simpa only [settleStage, hsite] using hrun

/-! ### Step 7 -/

/-- Completion gives safe scales to a lane that stands in no silent state when it settled in PROBE. -/
theorem Lane.complete_safe (v : Lane) (plan : Option LanePlan) (q : Parameters) (x : Settled) (demand grant : Nat)
    (start : LaneState) (sweep : SweepNo) (hx : ∀ entered, x = .probe entered → v.state.silent = false) :
    (v.complete plan q x demand grant start sweep).Safe := by
  unfold Lane.complete Lane.Safe
  dsimp only
  cases plan with
  | none => exact ⟨Nat.le_refl 0, Nat.zero_le _, fun _ => rfl, by simp⟩
  | some p =>
    dsimp only
    generalize budgetCeilingOf p.ratedWatts v.ceiling demand grant = c
    have htarget : targetOf p.pcal c ≤ 65536 := Nat.min_le_left _ _
    cases x with
    | silent => exact ⟨Nat.le_refl 0, Nat.zero_le _, fun _ => rfl, by simp⟩
    | probe entered =>
      refine ⟨?_, htarget, fun hs => ?_, by simp⟩
      · cases entered
        · exact Nat.min_le_right _ _
        · exact Nat.zero_le _
      · simp [completedState, hx entered rfl] at hs
    | running restriking =>
      refine ⟨?_, htarget, fun hs => ?_, by simp⟩
      · cases restriking
        · exact Nat.min_le_left _ _
        · exact Nat.min_le_right _ _
      · unfold completedState at hs
        dsimp only at hs
        split at hs <;> cases hs

/-- Step 7 so far: the lanes below `n` are safe, and those from `n` on are fit for completion. -/
def State.Completes (r : SiteRecord) (xs : List Settled) (n : Nat) (s : State) : Prop :=
  s.Evaluates r ∧ (∀ l, l < laneCount → l < n → s.laneSafe l) ∧
    ∀ l x, n ≤ l → xs[l]? = some x → l < laneCount → s.SettledOk l x

theorem State.completes_eventClosed (r : SiteRecord) (xs : List Settled) (n : Nat) :
    EventClosed (State.Completes r xs n) := by
  refine .of_evaluating (fun s t hp h => ?_) (fun k s hk h => ?_) fun s h => h.1.evaluating
  · obtain ⟨heval, hsafe, hsettled⟩ := h
    refine ⟨heval.of_plant hp, fun l hl hn => ?_, fun l x hn hx hl => (hsettled l x hn hx hl).of_plant hp⟩
    exact (State.laneSafe_congr (State.lane_of_lanes (congrArg (·.1) hp) l)
      (State.multiplier_of_multipliers (congrArg (·.2.1) hp) l)).mpr (hsafe l hl hn)
  · obtain ⟨heval, hsafe, hsettled⟩ := h
    refine ⟨heval.mute hk, fun l hl hn => ?_, fun l x hn hx hl => (hsettled l x hn hx hl).mute heval hl⟩
    by_cases hkl : k = l
    · subst hkl
      by_cases hm : (s.lane k).state.mutable = true
      · exact muteLane_laneSafe_self hm (heval.1 ▸ hk) (heval.2.1 ▸ hk)
      · rw [muteLane_of_not (Bool.eq_false_iff.mpr hm)]
        exact hsafe k hl hn
    · exact (State.laneSafe_congr (muteLane_lane_ne hkl s) (muteLane_multiplier_ne hkl s)).mpr (hsafe l hl hn)

/-- Step 7 on the next lane. -/
theorem State.Completes.completeLane {r : SiteRecord} {xs : List Settled} {n : Nat} {s : State} (h : s.Completes r xs n)
    (hn : n < r.lanes) (hlength : xs.length = r.lanes) (sweep : SweepNo) (demands grants : List Nat) :
    (completeLane sweep xs demands grants n s).Completes r xs (n + 1) := by
  obtain ⟨heval, hsafe, hsettled⟩ := h
  have hx : xs[n]? = some (xs.getD n .silent) := by
    simp [List.getD_eq_getElem?_getD, List.getElem?_eq_getElem (hlength ▸ hn)]
  have finish (t : State) (v : Lane) (hlanes : t.lanes = s.lanes.set n v)
      (hmultipliers : t.multipliers = s.multipliers ∨ ∃ k, t.multipliers = s.multipliers.set n k)
      (hsite : t.siteRecord = s.siteRecord) (hevaluation : t.evaluation = s.evaluation)
      (hself : n < laneCount → t.laneSafe n) : t.Completes r xs (n + 1) := by
    have hmultiplier (l : Nat) (hl : n ≠ l) : t.multiplier l = s.multiplier l := by
      rcases hmultipliers with hm | ⟨k, hm⟩
      · exact State.multiplier_of_multipliers hm l
      · exact State.multiplier_of_set_ne hm hl
    refine ⟨heval.of_set hn hlanes hmultipliers hsite fun ms hms => ⟨ms, hevaluation ▸ hms, rfl⟩, fun l hl hln => ?_,
      fun l x hln hlx hl => ?_⟩
    · by_cases hnl : n = l
      · subst hnl
        exact hself hl
      · exact (State.laneSafe_congr (State.lane_of_set_ne hlanes hnl) (hmultiplier l hnl)).mpr (hsafe l hl (by omega))
    · have hnl : n ≠ l := by omega
      refine (hsettled l x (by omega) hlx hl).of_eq (State.lane_of_set_ne hlanes hnl) (hmultiplier l hnl) ?_
      rw [State.mutedSince_eq, State.mutedSince_eq, hevaluation]
  unfold Machine.completeLane
  dsimp only
  split
  · rename_i hmuted
    refine finish _ _ rfl (.inl rfl) rfl rfl fun hl => ?_
    obtain ⟨hrecord, hheld⟩ := (s.laneSafe_iff n).mp ((hsettled n _ (Nat.le_refl n) hx hl).1 hmuted)
    rw [State.laneSafe_iff, State.lane_setLane_self _ _ _ (heval.1 ▸ hl)]
    exact ⟨hrecord.of_same rfl rfl rfl rfl, hheld⟩
  · rename_i hmuted
    refine finish _ _ (State.queueNotice?_lanes _ _) (.inr ⟨_, State.queueNotice?_multipliers _ _⟩)
      (State.queueNotice?_siteRecord _ _) (State.queueNotice?_evaluation _ _) fun hl => ?_
    rw [State.laneSafe_iff, State.lane_of_set (State.queueNotice?_lanes _ _) (heval.1 ▸ hl),
      State.multiplier_of_set (State.queueNotice?_multipliers _ _) (heval.2.1 ▸ hl)]
    exact ⟨Lane.complete_safe _ _ _ _ _ _ _ _ ((hsettled n _ (Nat.le_refl n) hx hl).2 (Bool.eq_false_iff.mpr hmuted)), rfl⟩

theorem State.Completes.scalesSafe {r : SiteRecord} {xs : List Settled} {s : State} (h : s.Completes r xs r.lanes) :
    s.ScalesSafe := by
  obtain ⟨⟨h1, h2, -, -, habove⟩, hbelow, -⟩ := h
  refine ⟨h1, h2, fun l hl => ?_⟩
  by_cases hlr : l < r.lanes
  · exact hbelow l hl hlr
  · exact habove l hl (Nat.not_lt.mp hlr)

theorem handlingStages_scalesSafe {r : SiteRecord} (during : During) (sweep : SweepNo) {s : State} (h : s.Evaluates r) :
    (handlingStages sweep (eventsAt during) s).ScalesSafe := by
  have settledEvents (xs : List Settled) p t (ht : State.Settles r xs t) : State.Settles r xs (eventsAt during p t) :=
    (State.settles_eventClosed r xs).eventsAt during p ht
  obtain ⟨hsettled, hlength⟩ := settleStage_settles settledEvents h
  unfold handlingStages
  dsimp only
  generalize settleStage s (eventsAt during) = p at hsettled hlength
  obtain ⟨heval, hok⟩ := settledEvents p.2 .settling p.1 hsettled
  generalize eventsAt during .settling p.1 = t at heval hok
  have hsite : t.siteRecord = r := heval.2.2.1
  have completed : (completeStage sweep p.2 t (eventsAt during)).Completes r p.2 r.lanes := by
    subst hsite
    unfold completeStage forEach
    dsimp only
    refine foldl_range (P := fun n (u : State) => u.Completes t.siteRecord p.2 n) t.siteRecord.lanes ?_ fun n u hn hu => ?_
    · exact ⟨heval.of_plant rfl, fun l _ hl => absurd hl (Nat.not_lt_zero l), fun l x _ hx hl => (hok l x hx hl).of_plant rfl⟩
    · exact (State.completes_eventClosed _ p.2 (n + 1)).eventsAt during _ (hu.completeLane hn hlength sweep _ _)
  refine State.Completes.scalesSafe ((State.completes_eventClosed r p.2 r.lanes).eventsAt during _
    ((State.completes_eventClosed r p.2 r.lanes).plant _ _ ?_ completed))
  unfold snapshotStage
  dsimp only
  split
  · rfl
  · split <;> rfl

theorem State.ScalesSafe.evaluate {s : State} (h : s.ScalesSafe) (sweep : SweepNo) (records : Option (List HeadRecord))
    (during : During) : (s.evaluate sweep records during).ScalesSafe := by
  have begun : (s.beginEvaluation sweep).Evaluates s.siteRecord := by
    obtain ⟨h1, h2, h3⟩ := h
    exact ⟨h1, h2, rfl, ⟨_, rfl, by simp⟩, fun l hl _ => h3 l hl⟩
  have closed := State.evaluates_stageClosed s.siteRecord
  exact handlingStages_scalesSafe during sweep
    (closed.stages (fun p t ht => closed.eventClosed.eventsAt during p ht) sweep records begun)

end Sys2Proof.Machine

namespace Sys2Proof.Machine

/-! ### From events and evaluations to a step -/

theorem State.unlessReset_keeps {Q : State → Prop} {f : State → State} (hf : ∀ s, Q s → Q (f s)) {s : State} (hs : Q s) :
    Q (s.unlessReset f) := by
  unfold State.unlessReset
  split
  · exact hs
  · exact hf s hs

/-- What an invariant of the lanes and the plan must meet to be kept by every step. -/
structure StepClosed (Q : State → Prop) : Prop where
  events : EventClosed Q
  drain : ∀ s : State, Q s → Q s.drainCommands
  evaluate : ∀ (s : State) (sweep : SweepNo) (records : Option (List HeadRecord)) (during : During), Q s →
    Q (s.evaluate sweep records during)
  endEvaluation : ∀ s : State, Q s → Q { s with evaluation := none }
  abandon : ∀ s : State, Q s → Q { s with waiting := none }
  endBlanking : ∀ (s : State) (z : Nat), Q s → Q (s.endBlankingIfDue z)
  judgeProbe : ∀ (s : State) (l : Nat), Q s → Q (s.judgeProbeIfDue l)
  fall : ∀ s : State, Q s.cleared
  release : ∀ (s : State) (p : Bool), Q (s.release p)

namespace StepClosed

variable {Q : State → Prop} (h : StepClosed Q)
include h

theorem plant {s t : State} (hs : Q s) (hp : t.plant = s.plant) : Q t := h.events.plant s t hp hs

theorem ended {s : State} (hs : Q s) : Q s.endEvaluation := by
  unfold State.endEvaluation
  split
  · have none : Q { s with evaluation := none } := h.endEvaluation s hs
    dsimp only
    split
    · unfold State.removeArcLine
      split
      · exact h.plant none rfl
      · exact h.plant none rfl
    · exact none
  · exact hs

theorem completeEvaluation {s : State} (hs : Q s) : Q s.completeEvaluation := by
  unfold State.completeEvaluation
  split
  · exact h.drain _ (h.ended hs)
  · exact hs

theorem takeReturn (ws : List Word) (during : During) {s : State} (hs : Q s) : Q (s.takeReturn ws during) := by
  unfold State.takeReturn
  split
  · exact h.plant hs rfl
  · rename_i f _
    dsimp only
    split
    · exact h.plant hs rfl
    · exact h.evaluate _ _ _ _ (h.plant hs rfl)
    · refine h.evaluate _ _ _ _ (h.plant hs ?_)
      generalize judgeReturn f ws = j
      cases j <;> rfl

theorem tick (during : During) {s : State} (hs : Q s) : Q (s.tick during) := by
  unfold State.tick
  dsimp only
  have begun : Q s.completeEvaluation.beginInterval := h.plant (h.completeEvaluation hs) rfl
  generalize s.completeEvaluation.beginInterval = t at begun
  split
  · exact h.plant begun rfl
  · rename_i f _
    have evaluated : Q (t.countTimeout.closeSweep.evaluate f.sweep none during).endEvaluation :=
      h.ended (h.evaluate _ _ _ _ (h.plant begun rfl))
    exact h.drain _ (h.plant evaluated rfl)

theorem abandonIfDue {s : State} (hs : Q s) : Q s.abandonIfDue := by
  unfold State.abandonIfDue
  split
  · split
    · exact h.drain _ (h.plant (h.abandon s hs) (State.completeHead_plant _ _ _))
    · exact hs
  · exact hs

theorem arrive (tag : Tag) (ws : List Word) {s : State} (hs : Q s) : Q (s.arrive tag ws) := by
  unfold State.arrive
  split
  · exact hs
  · exact h.events.submit s tag _ hs

theorem exec (c : Instr) {s : State} (hs : Q s) : ∃ t, exec c s = .next t ∧ Q t := by
  have event (e : MidEvent) : Q (s.unlessReset (midEvent e)) := State.unlessReset_keeps (fun _ ht => h.events.midEvent e ht) hs
  have pin (t : State) (e : MidEvent) (ht : t.plant = s.plant) : Q (if s.inReset then t else midEvent e s) := by
    split
    · exact h.plant hs ht
    · exact h.events.midEvent e hs
  cases c
  case openingMarkFound => exact ⟨_, rfl, event .openingMark⟩
  case goodFrameAligned f => exact ⟨_, rfl, event (.goodFrame f)⟩
  case badCheckFrame => exact ⟨_, rfl, event .badFrame⟩
  case missingOpeningMark => exact ⟨_, rfl, event .missingMark⟩
  case driveFrame => exact ⟨_, rfl, event (.goodFrame _)⟩
  case commandFrame => exact ⟨_, rfl, event (.goodFrame _)⟩
  case fillerFrame => exact ⟨_, rfl, event (.goodFrame _)⟩
  case lanePortFrameBoundary => exact ⟨_, rfl, event .lanePortBoundary⟩
  case returnFrameBoundary => exact ⟨_, rfl, event .returnBoundary⟩
  case inhibitNAssert => exact ⟨_, rfl, pin { s with inhibitLow := true } .inhibitFall rfl⟩
  case inhibitNDeassert => exact ⟨_, rfl, pin { s with inhibitLow := false } .inhibitRise rfl⟩
  case arcNFall => exact ⟨_, rfl, pin { s with arcLow := true } .arcFall rfl⟩
  case arcNRise => exact ⟨_, rfl, pin { s with arcLow := false } .arcRise rfl⟩
  case resetNAssert => exact ⟨_, rfl, h.fall s⟩
  case resetNRelease p => exact ⟨_, rfl, h.release s p⟩
  case sweepTick during => exact ⟨_, rfl, State.unlessReset_keeps (fun _ ht => h.tick during ht) hs⟩
  case sweepReturn ws during => exact ⟨_, rfl, State.unlessReset_keeps (fun _ ht => h.takeReturn ws during ht) hs⟩
  case activationAbandon => exact ⟨_, rfl, State.unlessReset_keeps (fun _ ht => h.abandonIfDue ht) hs⟩
  case blankingEnd z => exact ⟨_, rfl, State.unlessReset_keeps (fun t ht => h.endBlanking t z.toNat ht) hs⟩
  case probeJudgement l => exact ⟨_, rfl, State.unlessReset_keeps (fun t ht => h.judgeProbe t l.toNat ht) hs⟩
  case snapshotBuild =>
    refine ⟨_, rfl, State.unlessReset_keeps (fun t ht => h.plant ht ?_) hs⟩
    unfold State.snapshotIfDue
    dsimp only
    split <;> rfl
  case evaluationComplete => exact ⟨_, rfl, State.unlessReset_keeps (fun _ ht => h.completeEvaluation ht) hs⟩
  all_goals exact ⟨_, rfl, h.arrive _ _ hs⟩

theorem step {s t : State} (hs : Q s) (hstep : step s = .next t) : Q t := by
  unfold Machine.step at hstep
  split at hstep
  · cases hstep
    exact hs
  · rename_i c rest _
    obtain ⟨u, hu, hQ⟩ := h.exec c (s := { s with pending := rest }) (h.plant hs rfl)
    cases hu.symm.trans hstep
    exact hQ

end StepClosed

/-! ### The scales -/

/-- A probe that is judged leaves safe scales, where one that locks out is silenced at once. -/
theorem State.ScalesSafe.judgeProbeIfDue {s : State} (h : s.ScalesSafe) (l : Nat) : (s.judgeProbeIfDue l).ScalesSafe := by
  unfold State.judgeProbeIfDue
  dsimp only
  split
  case isFalse => exact h
  rename_i hdue
  refine h.changeLane fun hl => ?_
  obtain ⟨happlied, htarget, -, hmark⟩ := h.safe hl
  have hprobe := hdue.2.1
  have hmark : (s.lane l).restriking = false := (h.safe hl).not_restriking (by rw [hprobe]; simp)
  unfold Lane.judgeProbe
  split
  · exact Lane.arriving_safe happlied htarget (fun hs => by cases hs) fun _ hr => by simp [hmark] at hr
  split
  · rw [if_neg (by rw [hprobe]; simp)]
    exact Lane.arriving_safe happlied htarget (fun hs => by simp [hprobe, LaneState.silent] at hs) fun _ hr => by
      simp [hmark] at hr
  · exact Lane.arriving_safe (Nat.le_refl 0) (Nat.zero_le _) (fun _ => rfl) fun _ hr => by simp [hmark] at hr

/-- The end of a zone's blanking leaves its lanes waiting to restrike with the zero scales of BLANK. -/
theorem State.ScalesSafe.restrikeLane {s : State} (h : s.ScalesSafe) (l : Nat) : (restrikeLane l s).ScalesSafe := by
  unfold Machine.restrikeLane
  dsimp only
  split
  · rename_i hblank
    refine h.setLane rfl fun hl => ?_
    obtain ⟨ha, ht, hs, -⟩ := h.safe hl
    have hzero := hs (by rw [hblank]; rfl)
    exact ⟨ha, ht, fun _ => hzero, fun _ => ⟨rfl, hzero⟩⟩
  · exact h

theorem State.ScalesSafe.endBlankingIfDue {s : State} (h : s.ScalesSafe) (z : Nat) : (s.endBlankingIfDue z).ScalesSafe := by
  unfold State.endBlankingIfDue
  dsimp only
  split
  case isFalse => exact h
  refine forEach_keeps (fun l _ t ht => ?_)
    (forEach_keeps (fun l _ t ht => ht.restrikeLane l) (h.plant (State.queueNotice_plant _ _)))
  unfold State.noteLaneChange
  dsimp only
  split
  · exact ht
  · have entered : (t.setLane l { t.lane l with stateEntrySweep := t.lastEvaluation }).ScalesSafe :=
      ht.setLane rfl fun hl => (ht.safe hl).of_same rfl rfl rfl rfl
    exact entered.plant (State.queueNotice?_plant _ _)

theorem scalesSafe_of_reset {s : State} (hl : s.lanes = State.reset.lanes) (hm : s.multipliers = State.reset.multipliers) :
    s.ScalesSafe := by
  refine ⟨by rw [hl]; rfl, by rw [hm]; rfl, fun l hlt => ?_⟩
  have hlane : s.lane l = Lane.initial := by simp [State.lane, hl, State.reset, List.getD_eq_getElem?_getD, hlt]
  have hheld : s.multiplier l = 0 := by simp [State.multiplier, hm, State.reset, hlt]
  rw [State.laneSafe_iff, hlane, hheld]
  exact ⟨Lane.safe_of_zero rfl rfl (by simp [Lane.initial]), multiplierOf_zero.symm⟩

theorem State.scalesSafe_stepClosed : StepClosed State.ScalesSafe where
  events := State.scalesSafe_eventClosed
  drain _ h := h.drainCommands
  evaluate _ sweep records during h := h.evaluate sweep records during
  endEvaluation _ h := h.of_eq rfl rfl
  abandon _ h := h.of_eq rfl rfl
  endBlanking _ z h := h.endBlankingIfDue z
  judgeProbe _ l h := h.judgeProbeIfDue l
  fall s := scalesSafe_of_reset (s := s.cleared) rfl rfl
  release s p := scalesSafe_of_reset (s := s.release p) rfl rfl

/-- Settles O4: outside lane handling every change of a lane leaves it safe, and step 7 completes the lanes below L to safe
scales, but for those an event has muted since they settled, which are safe already. -/
theorem stepKeepsScalesSafe : Obligations.StepKeepsScalesSafe := by
  unfold Obligations.StepKeepsScalesSafe
  exact fun s t hs hstep => State.scalesSafe_stepClosed.step hs hstep

end Sys2Proof.Machine

/-! PROOFS. The plan in force stays a checked one (R151, R157, R163): an application makes a validated set active, the site
record it was validated against stands while it waits, and in SETUP no lane leaves OFF. -/

namespace Sys2Proof.Machine

/-- A lane that is OFF with its on request clear. -/
def Lane.Dark (v : Lane) : Prop := v.state = .off ∧ v.onRequest = false

/-- A lane that is OFF with its on request clear stays so where another record takes its state and request. -/
theorem Lane.Dark.of_same {v w : Lane} (h : v.Dark) (hs : w.state = v.state) (hr : w.onRequest = v.onRequest) : w.Dark :=
  ⟨hs.trans h.1, hr.trans h.2⟩

theorem State.PlanSound.dark {s : State} (h : s.PlanSound) (hsetup : s.phase = .setup) {l : Nat} (hl : l < laneCount) :
    (s.lane l).Dark := (h.2.1 hsetup).2 l hl

theorem State.PlanSound.plant {s t : State} (hp : t.plant = s.plant) (h : s.PlanSound) : t.PlanSound := by
  simp only [State.plant, Prod.mk.injEq] at hp
  obtain ⟨hl, -, hr, ha, hph, hw, -⟩ := hp
  unfold State.PlanSound
  rw [hl, hr, ha, hph, hw]
  simp only [State.lane_of_lanes hl]
  exact h

/-- Writing one lane keeps the plan sound, when in SETUP the lane stays OFF with its on request clear. -/
theorem State.PlanSound.of_set {s t : State} {l : Nat} {v : Lane} (h : s.PlanSound) (hlanes : t.lanes = s.lanes.set l v)
    (hsite : t.siteRecord = s.siteRecord) (hactive : t.activeSet = s.activeSet) (hphase : t.phase = s.phase)
    (hwaiting : t.waiting = s.waiting) (hv : s.phase = .setup → l < laneCount → v.Dark) : t.PlanSound := by
  obtain ⟨hlength, hsetup, hservice, hvalid⟩ := h
  refine ⟨by simp [hlanes, hlength], fun hp => ?_, by rwa [hphase, hsite, hactive], by rwa [hwaiting, hsite]⟩
  rw [hphase] at hp
  obtain ⟨hempty, hdark⟩ := hsetup hp
  refine ⟨hactive.trans hempty, fun k hk => ?_⟩
  by_cases hkl : l = k
  · subst hkl
    rw [State.lane_of_set hlanes (hlength ▸ hk)]
    exact hv hp hk
  · rw [State.lane_of_set_ne hlanes hkl]
    exact hdark k hk

theorem State.PlanSound.setLane {s : State} (h : s.PlanSound) {l : Nat} {v : Lane}
    (hv : s.phase = .setup → l < laneCount → v.Dark) : (s.setLane l v).PlanSound :=
  h.of_set rfl rfl rfl rfl rfl hv

theorem State.PlanSound.changeLane {s : State} (h : s.PlanSound) {l : Nat} {v : Lane}
    (hv : s.phase = .setup → l < laneCount → v.Dark) : (s.changeLane l v).PlanSound :=
  h.of_set (s.changeLane_lanes l v) (s.changeLane_siteRecord l v) (s.changeLane_activeSet l v) (s.changeLane_phase l v)
    (s.changeLane_waiting l v) fun hp hl => (hv hp hl).of_same (by simp) (by simp)

/-- In SETUP a lane is in no state but OFF. -/
theorem State.PlanSound.not_in {s : State} (h : s.PlanSound) {l : Nat} {st : LaneState} (hst : (s.lane l).state = st)
    (hoff : st ≠ .off) (hp : s.phase = .setup) (hl : l < laneCount) : False :=
  hoff (hst.symm.trans (h.dark hp hl).1)

theorem muteLane_phase (l : Nat) (s : State) : (muteLane l s).phase = s.phase := by
  unfold muteLane
  split <;> simp

theorem State.PlanSound.muteLane {s : State} (h : s.PlanSound) (l : Nat) : (muteLane l s).PlanSound := by
  unfold Machine.muteLane
  split
  · rename_i hm
    refine (h.changeLane fun hp hl => ?_).of_set (set_getD_self _ l Lane.initial).symm rfl rfl rfl rfl fun hp hl => ?_
    · rw [(h.dark hp hl).1] at hm
      cases hm
    · rw [State.changeLane_phase] at hp
      rw [(h.dark hp hl).1] at hm
      cases hm
  · exact h

/-! ### Commands -/

theorem State.PlanSound.takeLane {s : State} (h : s.PlanSound) (lane onWord modeWord given setpoint : Nat) :
    (takeLane lane onWord modeWord given setpoint s).1.PlanSound := by
  unfold Machine.takeLane
  split
  · exact h
  split
  · exact h
  split
  · exact h
  rename_i hon
  have operated : (s.setLane lane ((s.lane lane).operate modeWord given setpoint)).PlanSound :=
    h.setLane fun hp hl => (h.dark hp hl).of_same rfl rfl
  have phase : (s.setLane lane ((s.lane lane).operate modeWord given setpoint)).phase = s.phase := rfl
  dsimp only
  generalize s.setLane lane ((s.lane lane).operate modeWord given setpoint) = t at operated phase
  unfold State.requestOnOff
  split
  · rename_i hone
    have service : t.phase = .setup → lane < laneCount → ∀ v : Lane, v.Dark := fun hp => absurd ⟨hone, phase ▸ hp⟩ hon
    unfold State.requestOn
    dsimp only
    split
    · split
      · exact operated.changeLane fun hp hl => service hp hl _
      · exact operated.changeLane fun hp hl => service hp hl _
    · exact operated.setLane fun hp hl => service hp hl _
  split
  · unfold State.requestOff
    dsimp only
    split
    · exact operated.setLane fun hp hl => ⟨(operated.dark hp hl).1, rfl⟩
    · exact operated.changeLane fun _ _ => ⟨rfl, rfl⟩
  · exact operated

theorem State.PlanSound.clearLane {p : State × ClearTally} (h : p.1.PlanSound) (l : Nat) : (clearLane l p).1.PlanSound := by
  unfold Machine.clearLane
  dsimp only
  split
  · exact h
  split
  · rename_i hlocked
    exact h.changeLane fun hp hl => (h.not_in hlocked.1 (by simp) hp hl).elim
  split
  · exact h
  split
  · exact h.setLane fun hp hl => (h.dark hp hl).of_same rfl rfl
  · exact h

theorem State.PlanSound.clearZone {p : State × ClearTally} (h : p.1.PlanSound) (z : Nat) : (clearZone z p).1.PlanSound := by
  unfold Machine.clearZone
  dsimp only
  split
  · exact h
  split
  · refine foldl_keeps (Q := State.PlanSound) (f := fun q l => clearZoneLane l q) (fun q l hq => ?_) _ (p := (_, p.2))
      (h.plant (State.queueNotice_plant _ _))
    unfold Machine.clearZoneLane
    dsimp only
    split
    · rename_i hlocked
      exact hq.changeLane fun hp hl => (hq.not_in hlocked.1 (by simp) hp hl).elim
    · exact hq
  · exact h

/-- SITE replaces the record in SETUP alone, where no activation waits. -/
theorem State.PlanSound.takeSite {s : State} (h : s.PlanSound) (hwaiting : s.waiting = none) (fields : List Word) :
    (takeSite fields s).1.PlanSound := by
  unfold Machine.takeSite
  split
  · exact h
  rename_i hphase
  split
  · rename_i r _
    refine forEach_keeps (fun l _ t ht => ht.of_set (v := (t.lane l).unscaled) rfl rfl rfl rfl rfl fun hp hl =>
      (ht.dark hp hl).of_same rfl rfl) ?_
    obtain ⟨hlength, hsetup, -, -⟩ := h
    refine ⟨hlength, hsetup, fun hp => absurd hp hphase, fun w hw => ?_⟩
    rw [hwaiting] at hw
    cases hw
  · exact h

theorem State.PlanSound.takeActivate {s : State} (h : s.PlanSound) : (takeActivate s).1.PlanSound := by
  unfold Machine.takeActivate
  split
  · exact h
  dsimp only
  split
  · exact h
  · rename_i hvalid
    obtain ⟨hlength, hsetup, hservice, -⟩ := h
    refine ⟨hlength, hsetup, hservice, fun w hw => ?_⟩
    cases hw
    exact hvalid

theorem State.PlanSound.takeRestart {s : State} (h : s.PlanSound) : (takeRestart s).1.PlanSound := by
  obtain ⟨hlength, hsetup, hservice, hvalid⟩ := h
  have hlanes : (Machine.takeRestart s).1.lanes = s.lanes.map fun v => v.restarted s.lastEvaluation := rfl
  refine ⟨by simp [hlanes, hlength], fun hp => ⟨(hsetup hp).1, fun l hl => ?_⟩, hservice, hvalid⟩
  rw [restart_lane s l (hlength ▸ hl)]
  exact ⟨rfl, rfl⟩

theorem State.PlanSound.takeCommand {s : State} (h : s.PlanSound) (hwaiting : s.waiting = none) (c : Command) :
    (takeCommand c s).1.PlanSound := by
  cases c with
  | load part index definedWord fields => exact h.plant (takeLoad_plant part index definedWord fields s)
  | discard => exact h
  | activate => exact h.takeActivate
  | site fields => exact h.takeSite hwaiting fields
  | lane lane onWord modeWord given setpoint => exact h.takeLane _ _ _ _ _
  | clear seenOption r0 r1 r2 r3 lanes zones =>
    exact takeClear_keeps (fun _ _ hp ht => ht.plant hp) (fun z _ hp => hp.clearZone z) (fun l _ hp => hp.clearLane l) _ _ _ _ h
  | read item index part => exact h.plant (takeRead_plant item index part s)
  | restart => exact h.takeRestart
  | unknown => exact h

/-! ### The evaluation -/

/-- The plan is sound during an evaluation of a part with site record `r`, and in SETUP every lane settled is silent. -/
def State.PlanHeld (r : SiteRecord) (xs : List Settled) (s : State) : Prop :=
  s.PlanSound ∧ s.evaluating = true ∧ s.siteRecord = r ∧ (s.phase = .setup → ∀ x ∈ xs, x = .silent)

theorem State.PlanHeld.plant {r : SiteRecord} {xs : List Settled} {s t : State} (hp : t.plant = s.plant)
    (h : s.PlanHeld r xs) : t.PlanHeld r xs := by
  obtain ⟨hsound, heval, hsite, hsilent⟩ := h
  refine ⟨hsound.plant hp, (State.evaluating_of_plant hp).trans heval, (State.siteRecord_of_plant hp).trans hsite, ?_⟩
  have hphase : t.phase = s.phase := congrArg (·.2.2.2.2.1) hp
  rwa [hphase]

theorem State.PlanHeld.mute {r : SiteRecord} {xs : List Settled} {s : State} (l : Nat) (h : s.PlanHeld r xs) :
    (muteLane l s).PlanHeld r xs := by
  obtain ⟨hsound, heval, hsite, hsilent⟩ := h
  refine ⟨hsound.muteLane l, ?_, (muteLane_siteRecord l s).trans hsite, by rwa [muteLane_phase]⟩
  unfold Machine.muteLane
  split
  · simpa [State.evaluating, State.noteMuted] using heval
  · exact heval

theorem State.planHeld_eventClosed (r : SiteRecord) (xs : List Settled) : EventClosed (State.PlanHeld r xs) :=
  .of_evaluating (fun _ _ hp h => h.plant hp) (fun l _ _ h => h.mute l) fun _ h => h.2.1

/-- An application makes active a set that was validated against the site record of this evaluation. -/
theorem State.PlanHeld.activate {r : SiteRecord} {s t : State} {w : WaitingActivation} (hs : s.PlanHeld r [])
    (hw : s.waiting = some w) (ht : t.PlanHeld r []) :
    State.PlanHeld r [] { t with activeSet := w.tables, phase := .service, waiting := none } := by
  obtain ⟨⟨-, -, -, hvalid⟩, -, hsite, -⟩ := hs
  obtain ⟨⟨hlength, -, -, -⟩, heval, htsite, -⟩ := ht
  refine ⟨⟨hlength, fun hp => (nomatch hp), fun _ => ?_, fun w' hw' => (nomatch hw')⟩, heval, htsite, fun hp => (nomatch hp)⟩
  have := hvalid w hw
  rwa [hsite, ← htsite] at this

theorem State.planHeld_stageClosed (r : SiteRecord) : StageClosed r (State.PlanHeld r []) where
  plant _ _ hp h := h.plant hp
  evaluating _ h := h.2.1
  site _ h := h.2.2.1
  mute l _ _ h := h.mute l
  activate _ _ hs hw _ ht := hs.activate hw ht
  waiting s w n h hw := by
    obtain ⟨⟨hlength, hsetup, hservice, hvalid⟩, hrest⟩ := h
    refine ⟨⟨⟨hlength, hsetup, hservice, fun w' hw' => (nomatch hw')⟩, hrest⟩, ⟨hlength, hsetup, hservice, fun w' hw' => ?_⟩,
      hrest⟩
    cases hw'
    exact hvalid w hw
  restrike l s _ h := by
    unfold restrikeLane
    dsimp only
    split
    · rename_i hblank
      exact ⟨h.1.setLane fun hp hl => (h.1.not_in hblank (by simp) hp hl).elim, h.2⟩
    · exact h
  blank l s _ h := by
    unfold blankLane
    dsimp only
    split
    · exact h
    · rename_i hmoved
      refine ⟨h.1.of_set (State.noteMoved_lanes _ _ _) rfl rfl rfl rfl fun hp hl =>
        absurd (Or.inl (h.1.dark hp hl).1) hmoved, ?_, h.2.2⟩
      simpa [State.noteMoved, State.evaluating] using h.2.1

/-- In SETUP no lane has a zone. -/
theorem zoneIs_of_empty {s : State} (h : s.activeSet = TableSet.empty) (l : Nat) (p : ZoneState → Bool) :
    s.zoneIs l p = false := by
  have hnone : s.activeSet.zoneOf l = none := by
    rw [h]
    simp only [TableSet.zoneOf, TableSet.zoneEntry, TableSet.empty, List.getD_eq_getElem?_getD, List.getElem?_replicate]
    split <;> rfl
  simp [State.zoneIs, hnone]

/-- A lane with its on request clear settles OFF where its zone is not in LOCKOUT. -/
theorem Lane.settle_of_request_clear {v : Lane} {x : Situation} (hz : x.zoneLockout = false) (hr : v.onRequest = false) :
    v.settle x = (v.turnedOff, .silent) := by
  simp [Lane.settle, hz, hr]

/-- A lane that the part does not have reads as an initial one. -/
theorem State.lane_of_length_le {s : State} {l : Nat} (h : s.lanes.length ≤ l) : s.lane l = Lane.initial := by
  simp [State.lane, List.getD_eq_getElem?_getD, List.getElem?_eq_none h]

theorem State.PlanSound.request_clear {s : State} (h : s.PlanSound) (hp : s.phase = .setup) (l : Nat) :
    (s.lane l).onRequest = false := by
  by_cases hl : l < laneCount
  · exact (h.dark hp hl).2
  · rw [State.lane_of_length_le (by rw [h.1]; omega)]
    rfl

theorem State.PlanHeld.settleLane {r : SiteRecord} {m : Meanwhile}
    (hm : ∀ (xs : List Settled) p s, State.PlanHeld r xs s → State.PlanHeld r xs (m p s)) {p : State × List Settled}
    (l : Nat) (h : p.1.PlanHeld r p.2) :
    (settleLane m p l).1.PlanHeld r (settleLane m p l).2 := by
  obtain ⟨hsound, heval, hsite, hsilent⟩ := h
  have settled (hp : p.1.phase = .setup) :
      { p.1.lane l with state := p.1.judgedState l }.settle (p.1.situation l) =
        ({ p.1.lane l with state := p.1.judgedState l }.turnedOff, .silent) := by
    have hzone : (p.1.situation l).zoneLockout = false := zoneIs_of_empty (hsound.2.1 hp).1 l (· == .lockout)
    exact Lane.settle_of_request_clear hzone (hsound.request_clear hp l)
  refine hm _ _ _ ⟨hsound.of_set rfl rfl rfl rfl rfl fun hp hlt => ?_, ?_, hsite, fun hp x hx => ?_⟩
  · rw [settled hp]
    exact ⟨rfl, (hsound.dark hp hlt).2⟩
  · simpa [State.evaluating, State.beginSettled] using heval
  · rcases List.mem_append.mp hx with hx | hx
    · exact hsilent hp x hx
    · rw [settled hp] at hx
      exact List.mem_singleton.mp hx

theorem settleStage_planHeld {r : SiteRecord} {m : Meanwhile}
    (hm : ∀ (xs : List Settled) p s, State.PlanHeld r xs s → State.PlanHeld r xs (m p s)) {s : State}
    (h : s.PlanHeld r []) : (settleStage s m).1.PlanHeld r (settleStage s m).2 := by
  have composed : (forEach (List.range s.siteRecord.lanes) composeLane s).PlanHeld r [] := by
    refine forEach_keeps (fun l _ t ht => ⟨?_, ht.2⟩) h
    exact ht.1.setLane fun hp hl => (ht.1.dark hp hl).of_same rfl rfl
  exact foldl_range (P := fun _ (p : State × List Settled) => p.1.PlanHeld r p.2) (f := settleLane m) s.siteRecord.lanes
    (b := (forEach (List.range s.siteRecord.lanes) composeLane s, [])) composed
    fun k p _ hp => hp.settleLane hm k

/-- Step 7 leaves a silent lane in its state, with its on request. -/
theorem State.PlanHeld.completeLane {r : SiteRecord} {xs : List Settled} {s : State} (h : s.PlanHeld r xs) (sweep : SweepNo)
    (demands grants : List Nat) (l : Nat) : (completeLane sweep xs demands grants l s).PlanHeld r xs := by
  obtain ⟨hsound, heval, hsite, hsilent⟩ := h
  have silent (hp : s.phase = .setup) : xs.getD l .silent = .silent := by
    rw [List.getD_eq_getElem?_getD]
    cases hx : xs[l]? with
    | none => rfl
    | some x => exact hsilent hp x (List.mem_of_getElem? hx)
  unfold Machine.completeLane
  dsimp only
  split
  · exact ⟨hsound.setLane fun hp hl => (hsound.dark hp hl).of_same rfl rfl, heval, hsite, hsilent⟩
  · refine State.PlanHeld.plant (State.queueNotice?_plant _ _) ⟨hsound.of_set rfl rfl rfl rfl rfl fun hp hl => ?_, heval, hsite,
      hsilent⟩
    rw [silent hp]
    exact (hsound.dark hp hl).of_same rfl rfl

theorem handlingStages_planSound {r : SiteRecord} (during : During) (sweep : SweepNo) {s : State} (h : s.PlanHeld r []) :
    (handlingStages sweep (eventsAt during) s).PlanSound := by
  have events (xs : List Settled) p t (ht : State.PlanHeld r xs t) : State.PlanHeld r xs (eventsAt during p t) :=
    (State.planHeld_eventClosed r xs).eventsAt during p ht
  have settled := settleStage_planHeld events h
  unfold handlingStages
  dsimp only
  generalize settleStage s (eventsAt during) = p at settled
  have settledOn := events p.2 .settling p.1 settled
  generalize eventsAt during .settling p.1 = t at settledOn
  have completed : (completeStage sweep p.2 t (eventsAt during)).PlanHeld r p.2 :=
    forEach_keeps (fun l _ u hu => events _ _ _ (hu.completeLane sweep _ _ l)) (settledOn.plant rfl)
  refine (events p.2 _ _ (completed.plant ?_)).1
  unfold snapshotStage
  dsimp only
  split
  · rfl
  · split <;> rfl

theorem State.PlanSound.evaluate {s : State} (h : s.PlanSound) (sweep : SweepNo) (records : Option (List HeadRecord))
    (during : During) : (s.evaluate sweep records during).PlanSound := by
  have closed := State.planHeld_stageClosed s.siteRecord
  have begun : (s.beginEvaluation sweep).PlanHeld s.siteRecord [] :=
    ⟨h, rfl, rfl, fun _ x hx => absurd hx List.not_mem_nil⟩
  exact handlingStages_planSound during sweep
    (closed.stages (fun p t ht => closed.eventClosed.eventsAt during p ht) sweep records begun)

/-! ### Every step -/

theorem State.PlanSound.endBlankingIfDue {s : State} (h : s.PlanSound) (z : Nat) : (s.endBlankingIfDue z).PlanSound := by
  unfold State.endBlankingIfDue
  dsimp only
  split
  case isFalse => exact h
  refine forEach_keeps (fun l _ t ht => ?_)
    (forEach_keeps (fun l _ t ht => ?_) (h.plant (State.queueNotice_plant _ _)))
  · unfold State.noteLaneChange
    dsimp only
    split
    · exact ht
    · exact State.PlanSound.plant (State.queueNotice?_plant _ _)
        (ht.setLane fun hp hl => (ht.dark hp hl).of_same rfl rfl)
  · unfold restrikeLane
    dsimp only
    split
    · rename_i hblank
      exact ht.setLane fun hp hl => (ht.not_in hblank (by simp) hp hl).elim
    · exact ht

theorem planSound_of_reset {s : State} (hl : s.lanes = State.reset.lanes) (ha : s.activeSet = TableSet.empty)
    (hp : s.phase = .setup) (hw : s.waiting = none) : s.PlanSound := by
  refine ⟨by rw [hl]; rfl, fun _ => ⟨ha, fun l hlt => ?_⟩, fun h => ?_, fun w h => ?_⟩
  · have hlane : s.lane l = Lane.initial := by simp [State.lane, hl, State.reset, List.getD_eq_getElem?_getD, hlt]
    rw [hlane]
    exact ⟨rfl, rfl⟩
  · rw [hp] at h
    cases h
  · rw [hw] at h
    cases h

theorem State.planSound_stepClosed : StepClosed State.PlanSound where
  events :=
    { plant := fun _ _ hp h => h.plant hp
      mute := fun l _ _ h => h.muteLane l
      submit := submit_keeps (fun _ _ hp h => h.plant hp) fun c _ hw h => h.takeCommand hw c }
  drain _ h := takeCommands_keeps (fun _ _ hp h => h.plant hp) (fun c _ hw h => h.takeCommand hw c) _ h
  evaluate _ sweep records during h := h.evaluate sweep records during
  endEvaluation _ h := h
  abandon s h := ⟨h.1, h.2.1, h.2.2.1, fun w hw => (nomatch hw)⟩
  endBlanking _ z h := h.endBlankingIfDue z
  judgeProbe s l h := by
    unfold State.judgeProbeIfDue
    dsimp only
    split
    · rename_i hdue
      exact h.changeLane fun hp hl => (h.not_in hdue.2.1 (by simp) hp hl).elim
    · exact h
  fall s := planSound_of_reset (s := s.cleared) rfl rfl rfl rfl
  release s p := planSound_of_reset (s := s.release p) rfl rfl rfl rfl

/-- Settles O7: in SETUP no lane can leave OFF, and a set becomes active only as the validated set of the site record that
stands. -/
theorem stepKeepsPlanSound : Obligations.StepKeepsPlanSound := by
  unfold Obligations.StepKeepsPlanSound
  exact fun s t hs hstep => State.planSound_stepClosed.step hs hstep

end Sys2Proof.Machine

/-! PROOFS. The step, the part in reset, and the drive path: what each pin, mark and frame does, and the lanes that INHIBIT
or LINK_LOSS mutes. -/

namespace Sys2Proof.Machine

/-! ### The step and the part in reset -/

theorem State.arrive_of_inReset {s : State} (h : s.inReset = true) (tag : Tag) (ws : List Word) : s.arrive tag ws = s :=
  if_pos h

/-- While RESET_N is low only the pins and the release act (R181). -/
theorem exec_of_inReset {s : State} (h : s.inReset = true) (c : Instr) (h1 : c ≠ .inhibitNAssert)
    (h2 : c ≠ .inhibitNDeassert) (h3 : c ≠ .arcNFall) (h4 : c ≠ .arcNRise) (h5 : c ≠ .resetNAssert)
    (h6 : ∀ p, c ≠ .resetNRelease p) : exec c s = .next s := by
  have event (f : State → State) : Host.Outcome.next (φ := Fault) (ρ := Refusal) (s.unlessReset f) = .next s :=
    congrArg _ (State.unlessReset_of_inReset h f)
  have command (tag : Tag) (ws : List Word) : Host.Outcome.next (φ := Fault) (ρ := Refusal) (s.arrive tag ws) = .next s :=
    congrArg _ (State.arrive_of_inReset h tag ws)
  cases c
  case inhibitNAssert => exact absurd rfl h1
  case inhibitNDeassert => exact absurd rfl h2
  case arcNFall => exact absurd rfl h3
  case arcNRise => exact absurd rfl h4
  case resetNAssert => exact absurd rfl h5
  case resetNRelease p => exact absurd rfl (h6 p)
  case openingMarkFound | goodFrameAligned | badCheckFrame | missingOpeningMark | driveFrame | commandFrame | fillerFrame |
      lanePortFrameBoundary | returnFrameBoundary | sweepTick | sweepReturn | activationAbandon | blankingEnd |
      probeJudgement | snapshotBuild | evaluationComplete => exact event _
  all_goals exact command _ _

/-- Settles O1. -/
theorem stepRunsTheFrontCommand : Obligations.StepRunsTheFrontCommand := by
  unfold Obligations.StepRunsTheFrontCommand
  refine ⟨fun c rest s => rfl, fun s hempty => ?_⟩
  simp only [step, hempty]

/-- Settles O2. -/
theorem inResetNothingIsTaken : Obligations.InResetNothingIsTaken := by
  unfold Obligations.InResetNothingIsTaken
  intro c s hreset
  refine ⟨exec_of_inReset hreset c, ?_, ?_, ?_, ?_⟩ <;> rintro rfl <;> exact congrArg _ (if_pos hreset)

/-- Settles O3: each invariant holds of the reset values. -/
theorem resetStateIsSound : Obligations.ResetStateIsSound := by
  unfold Obligations.ResetStateIsSound
  exact ⟨scalesSafe_of_reset rfl rfl, noticeListSound_nil, placesSound_of_empty rfl rfl rfl,
    planSound_of_reset rfl rfl rfl rfl, countsBounded_cleared State.reset⟩

/-! ### Link lock (R2, R3) -/

theorem State.goodFrame_of_search {s : State} (h : s.link = .search) (f : ForwardFrame) : s.goodFrame f = s := by
  simp only [State.goodFrame, h]

theorem State.goodFrame_of_aligned_early {s : State} (h : s.link = .aligned) (hcount : s.goodFrames < 3)
    (f : ForwardFrame) : s.goodFrame f = { s with goodFrames := s.goodFrames + 1 } := by
  have hearly : ¬ framesToLock ≤ s.goodFrames + 1 := by simp only [framesToLock]; omega
  simp only [State.goodFrame, h, hearly, if_false]

theorem State.goodFrame_of_locked {s : State} (h : s.link = .locked) (f : ForwardFrame) :
    s.goodFrame f = State.takeFrame { s with badFrames := 0 } f := by
  simp only [State.goodFrame, h]

theorem State.goodFrame_of_fourth {s : State} (h : s.link = .aligned) (hcount : s.goodFrames = 3) (f : ForwardFrame) :
    s.goodFrame f = State.goodFrame { s with goodFrames := 4, badFrames := 0, link := .locked } f := by
  simp only [State.goodFrame, h, hcount, framesToLock]
  rfl

/-- A taken frame's common steps are those of `withTakenFrame`. -/
theorem State.countTaken_eq (s : State) (hold : Bool) :
    State.countTaken { s with badFrames := 0 } hold = s.withTakenFrame hold := by
  simp only [State.countTaken, State.withTakenFrame, saturatingSucc_eq_min, greatest32]

theorem State.countCheckFailure_eq (s : State) : s.countCheckFailure = s.withCheckFailure := by
  simp only [State.countCheckFailure, State.withCheckFailure, saturatingSucc_eq_min, greatest32]

/-- Every row that brings a frame with a good check has the one effect of a good frame. -/
theorem exec_frameRow {s : State} {f : ForwardFrame} {c : Instr} (hreset : s.inReset = false)
    (hc : c = .goodFrameAligned f ∨
      (∃ lane hold low sequence samples,
        f = .drive lane hold low sequence samples ∧ c = .driveFrame lane hold low sequence samples) ∨
      (∃ hold tag payload, f = .command hold tag payload ∧ c = .commandFrame hold tag payload) ∨
      (∃ hold, f = .filler hold ∧ c = .fillerFrame hold)) : exec c s = .next (s.goodFrame f) := by
  have hrunning : s.unlessReset (fun s => s.goodFrame f) = s.goodFrame f := State.unlessReset_of_running hreset _
  rcases hc with rfl | ⟨lane, hold, low, sequence, samples, rfl, rfl⟩ | ⟨hold, tag, payload, rfl, rfl⟩ | ⟨hold, rfl, rfl⟩ <;>
    exact congrArg _ hrunning

/-- Settles O11. -/
theorem fourthGoodFrameLocksTheLink : Obligations.FourthGoodFrameLocksTheLink := by
  unfold Obligations.FourthGoodFrameLocksTheLink
  intro s f c hreset hc
  have hrow {t : State} (ht : t.inReset = false) : exec c t = .next (t.goodFrame f) := exec_frameRow ht hc
  refine ⟨(hrow hreset).trans (exec_frameRow hreset (.inl rfl)).symm, fun hsearch => ?_, fun haligned hcount => ?_,
    fun haligned hcount => ?_, fun hold hfiller => ⟨fun haligned hcount => ?_, fun hlocked => ?_⟩⟩
  · rw [hrow hreset, State.goodFrame_of_search hsearch]
  · rw [hrow hreset, State.goodFrame_of_aligned_early haligned hcount]
  · rw [hrow hreset, State.goodFrame_of_fourth haligned hcount]
    exact (hrow (t := { s with goodFrames := 4, badFrames := 0, link := .locked }) hreset).symm
  · rw [hrow hreset, State.goodFrame_of_fourth haligned hcount, State.goodFrame_of_locked rfl, hfiller]
    exact congrArg _ (State.countTaken_eq { s with goodFrames := 4, link := .locked } hold)
  · rw [hrow hreset, State.goodFrame_of_locked hlocked, hfiller]
    exact congrArg _ (State.countTaken_eq s hold)

/-- The saturated sample is clamped to 16 bits (R6). -/
theorem scaleSample_eq (m : Nat) (x : Word) :
    scaleSample m x = BitVec.ofInt 16 (max (-32768) (min 32767 ((x.toInt * m + 16384) / 32768))) := by
  rw [scaleSample, clampInt_eq _ _ _ (by omega)]

/-- Settles O9. -/
theorem driveFrameIsScaledIntoItsSlot : Obligations.DriveFrameIsScaledIntoItsSlot := by
  unfold Obligations.DriveFrameIsScaledIntoItsSlot
  intro s lane hold low sequence samples hreset hlocked m header payload frame t
  have hrow : exec (.driveFrame lane hold low sequence samples) s =
      .next ((s.withTakenFrame hold).takeDrive lane hold sequence samples) := by
    rw [exec_frameRow hreset (.inr (.inl ⟨lane, hold, low, sequence, samples, rfl, rfl⟩)), State.goodFrame_of_locked hlocked,
      ← State.countTaken_eq]
    rfl
  have hframe : scaledFrame ((s.withTakenFrame hold).frameMultiplier lane.toNat) lane hold sequence samples = frame := by
    have hscale : scaleSample ((s.withTakenFrame hold).frameMultiplier lane.toNat) = fun x =>
        BitVec.ofInt 16 (max (-32768) (min 32767 ((x.toInt * m + 16384) / 32768))) := funext (scaleSample_eq m)
    rw [scaledFrame, makeFrame, hscale]
    rfl
  refine ⟨fun hbelow => ?_, fun habove => ?_⟩
  · have hlane : lane.toNat < (s.withTakenFrame hold).siteRecord.lanes := hbelow
    rw [hrow, State.takeDrive, if_pos hlane, hframe]
    rfl
  · have hlane : ¬ lane.toNat < (s.withTakenFrame hold).siteRecord.lanes := Nat.not_lt.mpr habove
    rw [hrow, State.takeDrive, if_neg hlane, saturatingSucc_eq_min]
    rfl

theorem State.enterSearch_of_aligned {s : State} (h : s.link = .aligned) : s.enterSearch = { s with link := .search } := by
  simp [State.enterSearch, h]

theorem State.enterSearch_of_locked {s : State} (h : s.link = .locked) :
    s.enterSearch = State.muteLanes { s with link := .search } := by
  simp [State.enterSearch, h]

theorem exec_badCheckFrame {s : State} (h : s.inReset = false) : exec .badCheckFrame s = .next s.badFrame :=
  congrArg _ (State.unlessReset_of_running h _)

theorem exec_missingOpeningMark {s : State} (h : s.inReset = false) : exec .missingOpeningMark s = .next s.missMark :=
  congrArg _ (State.unlessReset_of_running h _)

theorem exec_openingMarkFound {s : State} (h : s.inReset = false) : exec .openingMarkFound s = .next s.findMark :=
  congrArg _ (State.unlessReset_of_running h _)

/-- Settles O12. -/
theorem linkFollowsMarksAndChecks : Obligations.LinkFollowsMarksAndChecks := by
  unfold Obligations.LinkFollowsMarksAndChecks
  intro s hreset
  rw [exec_badCheckFrame hreset, exec_missingOpeningMark hreset, exec_openingMarkFound hreset]
  refine ⟨fun h => ?_, fun h => ?_, fun h => ⟨?_, ?_⟩, fun h => ⟨?_, ?_⟩, fun h hcount => ?_⟩
  · rw [State.findMark, if_pos h]
  · rw [State.findMark, if_neg h]
  · simp only [State.badFrame, h]
  · rw [State.missMark, if_pos h]
  · simp only [State.badFrame, h]
    rw [State.enterSearch_of_aligned (s := s.countCheckFailure) h, State.countCheckFailure_eq]
  · rw [State.missMark, if_neg (by simp [h]), State.enterSearch_of_aligned h]
  · have hfew : ¬ framesToLose ≤ s.badFrames + 1 := by simp only [framesToLose]; omega
    simp only [State.badFrame, h, hfew, if_false, State.countCheckFailure_eq]

/-! ### Ports and pins (R7 to R10) -/

/-- Settles O14. -/
theorem lanePortsSendAndEmptyTheirSlots : Obligations.LanePortsSendAndEmptyTheirSlots := by
  unfold Obligations.LanePortsSendAndEmptyTheirSlots
  intro s hreset
  exact congrArg _ (State.unlessReset_of_running hreset State.lanePortBoundary)

/-- Settles O17. -/
theorem arcLineFallsAndRises : Obligations.ArcLineFallsAndRises := by
  unfold Obligations.ArcLineFallsAndRises
  intro s hreset
  have hfall : exec .arcNFall s = .next s.arcFall := congrArg _ (if_neg (by simp [hreset]))
  have hrise : exec .arcNRise s = .next s.arcRise := congrArg _ (if_neg (by simp [hreset]))
  rw [hfall, hrise]
  refine ⟨fun hmask habsent => ?_, fun hkept => ?_, fun hmask => ?_, fun hmask => ?_⟩
  · simp only [State.arcFall, hmask, habsent, Bool.or_self, Bool.false_eq_true, if_false]
  · simp only [State.arcFall, Bool.or_eq_true, hkept, if_true]
  · simp only [State.arcRise, hmask, if_true]
    rfl
  · simp only [State.arcRise, hmask, Bool.false_eq_true, if_false]

/-- The alert set holds LINK_LOSS whenever the part is out of reset and the link is not LOCKED. -/
theorem State.alertLow_of_linkLoss {s : State} (hreset : s.inReset = false) (hloss : s.linkLoss = true) :
    s.alertLow = true := by
  simp [State.alertLow, State.alertSet, AlertSet.isEmpty, hreset, hloss]

/-- Settles O18. -/
theorem resetFallAndRelease : Obligations.ResetFallAndRelease := by
  unfold Obligations.ResetFallAndRelease
  intro s probePolHigh
  exact ⟨⟨s.cleared, rfl, rfl, rfl⟩,
    ⟨s.release probePolHigh, rfl, rfl, State.alertLow_of_linkLoss (s := s.release probePolHigh) rfl rfl, rfl⟩⟩

/-! ### Scaling (R5, R6) -/

/-- A product with a fraction m / 32768 of at most 1, rounded to the nearest, stays between 0 and the number. -/
theorem rounded_product_between {x m : Int} (h0 : 0 ≤ m) (h1 : m ≤ 32768) :
    min 0 x ≤ (x * m + 16384) / 32768 ∧ (x * m + 16384) / 32768 ≤ max 0 x := by
  rcases le_total 0 x with hx | hx
  · have hlow : 0 ≤ x * m := mul_nonneg hx h0
    have hhigh : x * m ≤ x * 32768 := mul_le_mul_of_nonneg_left h1 hx
    omega
  · have hlow : x * 32768 ≤ x * m := mul_le_mul_of_nonpos_left h1 hx
    have hhigh : x * m ≤ 0 := mul_nonpos_of_nonpos_of_nonneg hx h0
    omega

/-- A scaled sample needs no saturation while the multiplier is at most 32768. -/
theorem scaleSample_toInt {m : Nat} (hm : m ≤ 32768) (x : Word) :
    (scaleSample m x).toInt = (x.toInt * m + 16384) / 32768 := by
  obtain ⟨hlow, hhigh⟩ := rounded_product_between (x := x.toInt) (Int.natCast_nonneg m) (by exact_mod_cast hm)
  have hx1 := BitVec.two_mul_toInt_lt (x := x)
  have hx2 := BitVec.le_two_mul_toInt (x := x)
  generalize hy : (x.toInt * m + 16384) / 32768 = y at *
  have h1 : -32768 ≤ y := by omega
  have h2 : y ≤ 32767 := by omega
  rw [scaleSample_eq, hy, min_eq_right h2, max_eq_right h1, BitVec.toInt_ofInt_eq_self (by decide) (by omega) (by omega)]

/-- Settles O19. -/
theorem scaledSampleStaysWithinTheInput : Obligations.ScaledSampleStaysWithinTheInput := by
  unfold Obligations.ScaledSampleStaysWithinTheInput
  intro m x hm
  obtain ⟨hlow, hhigh⟩ := rounded_product_between (x := x.toInt) (Int.natCast_nonneg m) (by exact_mod_cast hm)
  refine ⟨?_, ?_, BitVec.eq_of_toInt_eq ?_, BitVec.eq_of_toInt_eq ?_⟩
  · rwa [scaleSample_toInt hm]
  · rwa [scaleSample_toInt hm]
  · rw [scaleSample_toInt (Nat.zero_le _)]
    simp
  · rw [scaleSample_toInt (Nat.le_refl _)]
    omega

/-- Each bit keeps the root's square within `n`, and what the bits left can add bounds it from above. -/
theorem isqrtFrom_spec (n k root : Nat) (hlow : root * root ≤ n) (hhigh : n < (root + 2 ^ k) * (root + 2 ^ k)) :
    isqrtFrom n k root * isqrtFrom n k root ≤ n ∧ n < (isqrtFrom n k root + 1) * (isqrtFrom n k root + 1) := by
  induction k generalizing root with
  | zero => exact ⟨hlow, by simpa [isqrtFrom] using hhigh⟩
  | succ k ih =>
    have hsplit : root + 2 ^ (k + 1) = root + 2 ^ k + 2 ^ k := by rw [pow_succ]; omega
    rw [hsplit] at hhigh
    unfold isqrtFrom
    dsimp only
    split
    · rename_i hfits
      exact ih (root + 2 ^ k) hfits hhigh
    · rename_i hover
      exact ih root hlow (Nat.not_le.mp hover)

theorem isqrt_spec (n : Nat) : isqrt n * isqrt n ≤ n ∧ n < (isqrt n + 1) * (isqrt n + 1) := by
  refine isqrtFrom_spec n _ 0 (Nat.zero_le n) ?_
  have hlog : n < 2 ^ (n.log2 + 1) := Nat.lt_log2_self
  have hpow : 2 ^ (n.log2 + 1) ≤ 2 ^ (n.log2 / 2 + 1) * 2 ^ (n.log2 / 2 + 1) := by
    rw [← pow_add]
    exact Nat.pow_le_pow_right (by omega) (by omega)
  simpa using Nat.lt_of_lt_of_le hlog hpow

/-- The integer square root is monotonic. -/
theorem isqrt_mono {a b : Nat} (h : a ≤ b) : isqrt a ≤ isqrt b := by
  obtain ⟨hlow, -⟩ := isqrt_spec a
  obtain ⟨-, hhigh⟩ := isqrt_spec b
  by_contra hlt
  have hle : isqrt b + 1 ≤ isqrt a := by omega
  have := Nat.mul_le_mul hle hle
  omega

/-- Settles O20. -/
theorem multiplierIsTheIntegerSquareRoot : Obligations.MultiplierIsTheIntegerSquareRoot := by
  unfold Obligations.MultiplierIsTheIntegerSquareRoot
  intro a b
  obtain ⟨hlow, hhigh⟩ := isqrt_spec (16384 * a)
  refine ⟨hlow, hhigh, fun ha => ?_, fun hab => isqrt_mono (Nat.mul_le_mul_left _ hab)⟩
  by_contra hlarge
  have hge : 32769 ≤ multiplierOf a := by omega
  have := Nat.mul_le_mul hge hge
  have hle : multiplierOf a * multiplierOf a ≤ 16384 * a := hlow
  omega

end Sys2Proof.Machine

/-! PROOFS. INHIBIT and LINK_LOSS mute the lanes (R110): the record of a muted lane, the notices in lane order, and what an
evaluation in progress notes of it. -/

namespace Sys2Proof.Machine

/-! ### Ascending lists of indices -/

/-- An ascending list is the indices below `n` that meet its condition, in their order. -/
theorem ascending_eq_filter {is : List Nat} {n : Nat} {p : Nat → Bool} (hascends : is.Pairwise (· < ·))
    (hmem : ∀ i, i ∈ is ↔ i < n ∧ p i = true) : is = (List.range n).filter p := by
  refine List.Pairwise.eq_of_mem_iff hascends ((List.pairwise_lt_range (n := n)).filter p) fun i => ?_
  rw [hmem, List.mem_filter, List.mem_range]

/-! ### The notice queue alone -/

theorem State.NoticesOf.refl (s : State) : s.NoticesOf s := ⟨rfl, rfl, rfl⟩

theorem State.NoticesOf.trans {s t u : State} (h : s.NoticesOf t) (k : t.NoticesOf u) : s.NoticesOf u :=
  ⟨h.1.trans k.1, h.2.1.trans k.2.1, h.2.2.trans k.2.2⟩

/-- Queuing looks at the notice queue alone. -/
theorem State.NoticesOf.queueNotice {s t : State} (h : s.NoticesOf t) (n : Notice) :
    (s.queueNotice n).NoticesOf (t.queueNotice n) := by
  obtain ⟨h1, h2, h3⟩ := h
  unfold State.queueNotice
  rw [h1, h3]
  split
  · exact ⟨rfl, h2, rfl⟩
  split
  · exact ⟨rfl, h2, rfl⟩
  · exact ⟨rfl, rfl, rfl⟩

theorem State.NoticesOf.queueNotice? {s t : State} (h : s.NoticesOf t) (n : Option Notice) :
    (s.queueNotice? n).NoticesOf (t.queueNotice? n) := by
  cases n with
  | none => exact h
  | some n => exact h.queueNotice n

theorem State.NoticesOf.queuing {s t : State} (h : s.NoticesOf t) (ns : List Notice) :
    (s.queuing ns).NoticesOf (t.queuing ns) := by
  unfold State.queuing
  induction ns generalizing s t with
  | nil => exact h
  | cons n ns ih => exact ih (h.queueNotice n)

theorem State.queuing_append (s : State) (ns ms : List Notice) : s.queuing (ns ++ ms) = (s.queuing ns).queuing ms :=
  List.foldl_append

theorem State.queueNotice?_eq_queuing (s : State) (n : Option Notice) : s.queueNotice? n = s.queuing n.toList := by
  cases n <;> rfl

/-! ### The record of a muted lane -/

theorem State.mutes_iff (s : State) (l : Nat) : s.Mutes l ↔ (s.lane l).state.mutable = true := by
  unfold State.Mutes LaneState.mutable
  cases (s.lane l).state <;> simp

/-- A lane record as an INHIBIT or LINK_LOSS event leaves it (R107, R110). -/
def Lane.mutedAt (v : Lane) (sweep : SweepNo) : Lane :=
  { v with
    state := .muted, target := 0, applied := 0, probeOwed := v.probeOwed || v.state == .probe
    probeRemaining := if v.state = .probe then 0 else v.probeRemaining
    restriking := false, stateEntrySweep := sweep }

theorem Lane.muteAtOnce_arriving {v : Lane} (h : v.state.mutable = true) (sweep : SweepNo) :
    v.muteAtOnce.arriving v.state sweep = v.mutedAt sweep := by
  have hstate : v.muteAtOnce.state = .muted := rfl
  have hother : v.state ≠ v.muteAtOnce.state := by
    rw [hstate]
    intro hm
    rw [hm] at h
    cases h
  rw [Lane.arriving_of_other hother]
  by_cases hp : v.state = .probe
  · simp [Lane.muteAtOnce, Lane.abandonProbe, Lane.mutedAt, hp]
  · simp [Lane.muteAtOnce, Lane.abandonProbe, Lane.mutedAt, hp]

/-- The notice of a lane that an event mutes. -/
def mutedNotice (sweep : SweepNo) (l : Nat) : Notice :=
  { subject := .lane l, state := .lane .muted, value := .number 0, sweep, changes := 1 }

theorem laneChangeNotice_muted {v : Lane} (h : v.state.mutable = true) (l : Nat) (sweep : SweepNo) :
    laneChangeNotice l v.state (v.mutedAt sweep) = some (mutedNotice sweep l) := by
  have hother : v.state ≠ .muted := by
    intro hm
    rw [hm] at h
    cases h
  simp [laneChangeNotice, Lane.mutedAt, hother, LaneState.noticed, laneNotice, mutedNotice]

theorem muteLane_eq {s : State} {l : Nat} (h : (s.lane l).state.mutable = true) :
    muteLane l s = ((s.setLaneScaled l ((s.lane l).mutedAt s.lastEvaluation)).queueNotice
      (mutedNotice s.lastEvaluation l)).noteMuted l := by
  rw [muteLane_of_mutable h, State.changeLane_eq, Lane.muteAtOnce_arriving h, laneChangeNotice_muted h]
  rfl

/-! ### The lanes below `n` muted -/

/-- What muting lane `l` makes of what an evaluation in progress holds. -/
def EvalProgress.noteMuted (e : EvalProgress) (l : Nat) : EvalProgress :=
  { e with
    startStates := e.startStates.set l .muted, mutedSince := e.mutedSince.set l true, movedFrom := e.movedFrom.set l none }

/-- `t` comes of `s` by muting those of the lanes below `n` that an event mutes. -/
structure State.MutedBelow (s t : State) (n : Nat) : Prop where
  only : s.OnlyLanesAndNotices t
  lengths : t.lanes.length = s.lanes.length ∧ t.multipliers.length = s.multipliers.length
  below : ∀ l, l < n → (s.lane l).state.mutable = true →
    t.lane l = (s.lane l).mutedAt s.lastEvaluation ∧ t.multiplier l = 0
  others : ∀ l, n ≤ l ∨ (s.lane l).state.mutable = false → t.lane l = s.lane l ∧ t.multiplier l = s.multiplier l
  notices : t.NoticesOf (s.queuing (((List.range n).filter fun l => (s.lane l).state.mutable).map
    (mutedNotice s.lastEvaluation)))
  evaluation : t.evaluation = s.evaluation.map fun e =>
    ((List.range n).filter fun l => (s.lane l).state.mutable).foldl EvalProgress.noteMuted e

theorem State.MutedBelow.zero (s : State) : s.MutedBelow s 0 where
  only := rfl
  lengths := ⟨rfl, rfl⟩
  below _ h := absurd h (Nat.not_lt_zero _)
  others _ _ := ⟨rfl, rfl⟩
  notices := .refl s
  evaluation := by simp

theorem State.OnlyLanesAndNotices.lastEvaluation {s t : State} (h : s.OnlyLanesAndNotices t) :
    t.lastEvaluation = s.lastEvaluation := by
  unfold State.OnlyLanesAndNotices at h
  rw [h]

theorem filter_range_succ (p : Nat → Bool) (n : Nat) :
    (List.range (n + 1)).filter p = (List.range n).filter p ++ if p n then [n] else [] := by
  rw [List.range_succ, List.filter_append]
  congr 1
  by_cases h : p n = true
  · simp [h]
  · simp [h]

theorem State.MutedBelow.succ {s t : State} {n : Nat} (h : s.MutedBelow t n) (hl : n < s.lanes.length)
    (hm : n < s.multipliers.length) : s.MutedBelow (muteLane n t) (n + 1) := by
  obtain ⟨hlane, hmultiplier⟩ := h.others n (.inl (Nat.le_refl n))
  have hlast := h.only.lastEvaluation
  by_cases hmutes : (s.lane n).state.mutable = true
  · have hmutes' : (t.lane n).state.mutable = true := hlane.symm ▸ hmutes
    have heq := muteLane_eq hmutes'
    rw [hlane, hlast] at heq
    have hfilter : (List.range (n + 1)).filter (fun l => (s.lane l).state.mutable) =
        (List.range n).filter (fun l => (s.lane l).state.mutable) ++ [n] := by
      rw [filter_range_succ, if_pos hmutes]
    have hlanes : (muteLane n t).lanes = t.lanes.set n ((s.lane n).mutedAt s.lastEvaluation) := by
      rw [heq]
      exact State.queueNotice_lanes _ _
    have hmultipliers : (muteLane n t).multipliers = t.multipliers.set n 0 := muteLane_multipliers hmutes'
    refine ⟨?_, ?_, fun l hln hml => ?_, fun l hl' => ?_, ?_, ?_⟩
    · unfold State.OnlyLanesAndNotices at *
      obtain ⟨q, d, c, hq⟩ := State.queueNotice_eq (t.setLaneScaled n ((s.lane n).mutedAt s.lastEvaluation))
        (mutedNotice s.lastEvaluation n)
      rw [heq, hq, h.only]
      rfl
    · rw [hlanes, hmultipliers, List.length_set, List.length_set]
      exact h.lengths
    · by_cases hnl : n = l
      · subst hnl
        exact ⟨State.lane_of_set hlanes (h.lengths.1 ▸ hl), State.multiplier_of_set hmultipliers (h.lengths.2 ▸ hm)⟩
      · rw [State.lane_of_set_ne hlanes hnl, State.multiplier_of_set_ne hmultipliers hnl]
        exact h.below l (by omega) hml
    · have hnl : n ≠ l := by
        rintro rfl
        rcases hl' with hle | hfalse
        · omega
        · rw [hmutes] at hfalse
          cases hfalse
      rw [State.lane_of_set_ne hlanes hnl, State.multiplier_of_set_ne hmultipliers hnl]
      exact h.others l (hl'.imp_left fun hle => by omega)
    · rw [hfilter, List.map_append, State.queuing_append, heq]
      exact State.NoticesOf.queueNotice (s := t.setLaneScaled n _) h.notices _
    · rw [hfilter, muteLane_evaluation hmutes']
      simp only [State.noteMuted, h.evaluation, Option.map_map, List.foldl_append]
      rfl
  · have hfalse := Bool.eq_false_iff.mpr hmutes
    rw [muteLane_of_not (hlane.symm ▸ hfalse)]
    have hfilter : (List.range (n + 1)).filter (fun l => (s.lane l).state.mutable) =
        (List.range n).filter (fun l => (s.lane l).state.mutable) := by
      rw [filter_range_succ, if_neg hmutes, List.append_nil]
    refine ⟨h.only, h.lengths, fun l hln hml => ?_, fun l hl' => ?_, hfilter ▸ h.notices, hfilter ▸ h.evaluation⟩
    · refine h.below l ?_ hml
      rcases Nat.lt_succ_iff_lt_or_eq.mp hln with hlt | rfl
      · exact hlt
      · exact absurd hml hmutes
    · exact h.others l (hl'.imp_left fun hle => by omega)

theorem State.mutedBelow_forEach {s : State} {n : Nat} (hl : n ≤ s.lanes.length) (hm : n ≤ s.multipliers.length) :
    s.MutedBelow (forEach (List.range n) muteLane s) n := by
  induction n with
  | zero => exact .zero s
  | succ n ih =>
    rw [List.range_succ, forEach_append_single]
    exact (ih (by omega) (by omega)).succ hl hm

theorem State.muteLanes_mutedBelow {s : State} (hl : s.lanes.length = laneCount) (hm : s.multipliers.length = laneCount) :
    s.MutedBelow s.muteLanes laneCount :=
  State.mutedBelow_forEach hl.ge hm.ge

/-! ### What an evaluation in progress notes -/

theorem getD_set {α : Type} (xs : List α) (i k : Nat) (v d : α) :
    (xs.set i v).getD k d = if i = k ∧ i < xs.length then v else xs.getD k d := by
  simp only [List.getD_eq_getElem?_getD, List.getElem?_set]
  by_cases hik : i = k
  · subst hik
    by_cases hi : i < xs.length
    · simp [hi]
    · simp [hi]
  · simp [hik]

/-- Noting a list of lanes notes each of them, and leaves what is held of any other. -/
theorem foldl_noteMuted (ls : List Nat) (e : EvalProgress) :
    (ls.foldl EvalProgress.noteMuted e).removalDecided = e.removalDecided ∧
    ((ls.foldl EvalProgress.noteMuted e).startStates.length = e.startStates.length ∧
      (ls.foldl EvalProgress.noteMuted e).mutedSince.length = e.mutedSince.length) ∧
    (∀ l, l ∈ ls →
      (l < e.startStates.length → (ls.foldl EvalProgress.noteMuted e).startStates.getD l .off = .muted) ∧
      (l < e.mutedSince.length → (ls.foldl EvalProgress.noteMuted e).mutedSince.getD l false = true) ∧
      (ls.foldl EvalProgress.noteMuted e).movedFrom.getD l none = none) ∧
    ∀ l, l ∉ ls →
      (ls.foldl EvalProgress.noteMuted e).startStates.getD l .off = e.startStates.getD l .off ∧
      (ls.foldl EvalProgress.noteMuted e).mutedSince.getD l false = e.mutedSince.getD l false ∧
      (ls.foldl EvalProgress.noteMuted e).movedFrom.getD l none = e.movedFrom.getD l none := by
  induction ls using List.reverseRecOn with
  | nil => exact ⟨rfl, ⟨rfl, rfl⟩, fun l hl => absurd hl List.not_mem_nil, fun l _ => ⟨rfl, rfl, rfl⟩⟩
  | append_singleton ls k ih =>
    rw [List.foldl_append, List.foldl_cons, List.foldl_nil]
    generalize ls.foldl EvalProgress.noteMuted e = f at ih
    obtain ⟨hremoval, ⟨hstart, hsince⟩, hin, hout⟩ := ih
    have hk (l : Nat) :
        ((f.noteMuted k).startStates.getD l .off = if k = l ∧ k < f.startStates.length then .muted else f.startStates.getD l .off) ∧
        ((f.noteMuted k).mutedSince.getD l false = if k = l ∧ k < f.mutedSince.length then true else f.mutedSince.getD l false) ∧
        ((f.noteMuted k).movedFrom.getD l none = if k = l ∧ k < f.movedFrom.length then none else f.movedFrom.getD l none) :=
      ⟨getD_set _ _ _ _ _, getD_set _ _ _ _ _, getD_set _ _ _ _ _⟩
    refine ⟨hremoval, ⟨?_, ?_⟩, fun l hl => ?_, fun l hl => ?_⟩
    · simpa [EvalProgress.noteMuted] using hstart
    · simpa [EvalProgress.noteMuted] using hsince
    · obtain ⟨h1, h2, h3⟩ := hk l
      by_cases hkl : k = l
      · subst hkl
        refine ⟨fun h => ?_, fun h => ?_, ?_⟩
        · rw [h1, if_pos ⟨rfl, hstart ▸ h⟩]
        · rw [h2, if_pos ⟨rfl, hsince ▸ h⟩]
        · rw [h3]
          split
          · rfl
          · rename_i hlen
            simp only [true_and, Nat.not_lt] at hlen
            simp [List.getD_eq_getElem?_getD, List.getElem?_eq_none hlen]
      · have hls : l ∈ ls := by simpa [Ne.symm hkl] using hl
        simp only [hkl, false_and, if_false] at h1 h2 h3
        obtain ⟨g1, g2, g3⟩ := hin l hls
        exact ⟨fun h => h1.trans (g1 h), fun h => h2.trans (g2 h), h3.trans g3⟩
    · have hkl : k ≠ l := by
        rintro rfl
        exact hl (by simp)
      obtain ⟨h1, h2, h3⟩ := hk l
      obtain ⟨g1, g2, g3⟩ := hout l fun h => hl (List.mem_append_left _ h)
      simp only [hkl, false_and, if_false] at h1 h2 h3
      exact ⟨h1.trans g1, h2.trans g2, h3.trans g3⟩

/-! ### INHIBIT and LINK_LOSS -/

/-- Muting the lanes of a state that shares what `State.LanesMuted` looks at mutes those of `s`. -/
theorem State.MutedBelow.lanesMuted {s u t : State} (h : u.MutedBelow t laneCount) (hlanes : u.lanes = s.lanes)
    (hmultipliers : u.multipliers = s.multipliers) (hlast : u.lastEvaluation = s.lastEvaluation)
    (hnotices : u.NoticesOf s) (heval : u.evaluation = s.evaluation) : s.LanesMuted t := by
  have hlane (l : Nat) : u.lane l = s.lane l := State.lane_of_lanes hlanes l
  have hmultiplier (l : Nat) : u.multiplier l = s.multiplier l := State.multiplier_of_multipliers hmultipliers l
  have hfilter {ls : List Nat} (hascends : ls.Pairwise (· < ·)) (hmem : ∀ l, l ∈ ls ↔ l < laneCount ∧ s.Mutes l) :
      ls = (List.range laneCount).filter fun l => (u.lane l).state.mutable :=
    ascending_eq_filter hascends fun l => by rw [hmem, State.mutes_iff, hlane]
  refine ⟨fun l hl => ⟨fun hm => ?_, fun hm => ?_⟩, fun ls hascends hmem => ?_, fun hnone => ?_, fun e he => ?_⟩
  · have := h.below l hl (by rw [hlane]; exact (s.mutes_iff l).mp hm)
    rwa [hlane, hlast] at this
  · have := h.others l (.inr (by rw [hlane]; exact Bool.eq_false_iff.mpr fun hc => hm ((s.mutes_iff l).mpr hc)))
    rwa [hlane, hmultiplier] at this
  · have := h.notices.trans (hnotices.queuing _)
    rw [← hfilter hascends hmem, hlast] at this
    exact this
  · rw [h.evaluation, heval, hnone]
    rfl
  · obtain ⟨hremoval, -, hin, hout⟩ :=
      foldl_noteMuted ((List.range laneCount).filter fun l => (u.lane l).state.mutable) e
    have hmem (l : Nat) (hl : l < laneCount) :
        l ∈ (List.range laneCount).filter (fun l => (u.lane l).state.mutable) ↔ s.Mutes l := by
      rw [List.mem_filter, List.mem_range, State.mutes_iff, hlane]
      exact and_iff_right hl
    refine ⟨_, by rw [h.evaluation, heval, he]; rfl, hremoval, fun l hl => ⟨fun hm => ?_, fun hm => ?_⟩⟩
    · exact hin l ((hmem l hl).mpr hm)
    · exact hout l fun hc => hm ((hmem l hl).mp hc)

/-- Settles O16. -/
theorem inhibitMutesAndReleases : Obligations.InhibitMutesAndReleases := by
  unfold Obligations.InhibitMutesAndReleases
  intro s hreset hlanes hmultipliers
  have hassert : exec .inhibitNAssert s = .next s.inhibitFall := congrArg _ (if_neg (by simp [hreset]))
  have hdeassert : exec .inhibitNDeassert s = .next s.inhibitRise := congrArg _ (if_neg (by simp [hreset]))
  refine ⟨fun habsent => ?_, fun hmember => ?_, hdeassert⟩
  · have hmuted := State.muteLanes_mutedBelow (s := { s with inhibitLow := true, forceInhibit := true }) hlanes hmultipliers
    refine ⟨_, hassert, ?_⟩
    rw [State.inhibitFall, habsent]
    exact ⟨hmuted.lanesMuted rfl rfl rfl ⟨rfl, rfl, rfl⟩ rfl, hmuted.only⟩
  · rw [hassert, State.inhibitFall, if_pos hmember, ← hmember]

theorem State.muteLanes_link {s : State} (hl : s.lanes.length = laneCount) (hm : s.multipliers.length = laneCount) :
    s.muteLanes.link = s.link := by
  have := (State.muteLanes_mutedBelow hl hm).only
  unfold State.OnlyLanesAndNotices at this
  rw [this]

/-- A LOCKED link that enters SEARCH raises LINK_LOSS and mutes the lanes (R3, R110). -/
theorem State.enterSearch_lanesMuted {s u : State} (hlocked : u.link = .locked) (hlengths : u.lanes.length = laneCount)
    (hlengths' : u.multipliers.length = laneCount) (hlanes : u.lanes = s.lanes) (hmultipliers : u.multipliers = s.multipliers)
    (hlast : u.lastEvaluation = s.lastEvaluation) (hnotices : u.NoticesOf s) (heval : u.evaluation = s.evaluation) :
    u.enterSearch.linkLoss = true ∧ s.LanesMuted u.enterSearch ∧
      State.OnlyLanesAndNotices { u with link := .search } u.enterSearch := by
  rw [State.enterSearch_of_locked hlocked]
  have hmuted := State.muteLanes_mutedBelow (s := { u with link := .search }) hlengths hlengths'
  refine ⟨?_, hmuted.lanesMuted hlanes hmultipliers hlast hnotices heval, hmuted.only⟩
  rw [State.linkLoss, State.muteLanes_link (s := { u with link := .search }) hlengths hlengths']
  rfl

/-- Settles O13. -/
theorem losingLockMutesTheLanes : Obligations.LosingLockMutesTheLanes := by
  unfold Obligations.LosingLockMutesTheLanes
  intro s hreset hlocked hlanes hmultipliers
  rw [exec_badCheckFrame hreset, exec_missingOpeningMark hreset]
  refine ⟨fun hseven => ⟨_, rfl, ?_⟩, ⟨_, rfl, ?_⟩⟩
  · have heighth : s.badFrame = State.enterSearch { s.withCheckFailure with badFrames := 8 } := by
      simp only [State.badFrame, hlocked, hseven, framesToLose, State.countCheckFailure_eq]
      rfl
    rw [heighth]
    exact State.enterSearch_lanesMuted (s := s) (u := { s.withCheckFailure with badFrames := 8 }) hlocked hlanes hmultipliers
      rfl rfl rfl ⟨rfl, rfl, rfl⟩ rfl
  · rw [State.missMark, if_neg (by simp [hlocked])]
    exact State.enterSearch_lanesMuted hlocked hlanes hmultipliers rfl rfl rfl (.refl s) rfl

end Sys2Proof.Machine

/-! PROOFS. Management commands, the front: what a command that is taken does never depends on the command queue, the
replies, the refusal record or the report hold, and keeps them; so a command that arrives on a Ready state is its effect
and one reply. -/

namespace Sys2Proof.Machine

/-! ### The desk: the fields that no taken command looks at -/

/-- `s` with the command queue, the replies, the refusal record, the report hold and the link statistics of `d`. -/
def State.atDesk (s d : State) : State :=
  { s with
    commands := d.commands, replies := d.replies, refusal := d.refusal, reportHold := d.reportHold
    linkStatistics := d.linkStatistics }

/-- A pair whose state takes the desk of `d`. -/
def atDeskOf {α : Type} (d : State) (p : State × α) : State × α := (p.1.atDesk d, p.2)

@[simp] theorem State.queueNotice_atDesk (s d : State) (n : Notice) :
    (s.atDesk d).queueNotice n = (s.queueNotice n).atDesk d := by
  have hnotices : (s.atDesk d).notices = s.notices := rfl
  unfold State.queueNotice
  rw [hnotices]
  split_ifs <;> rfl

@[simp] theorem State.queueNotice?_atDesk (s d : State) (n : Option Notice) :
    (s.atDesk d).queueNotice? n = (s.queueNotice? n).atDesk d := by
  cases n with
  | none => rfl
  | some n => exact s.queueNotice_atDesk d n

@[simp] theorem State.changeLane_atDesk (s d : State) (l : Nat) (v : Lane) :
    (s.atDesk d).changeLane l v = (s.changeLane l v).atDesk d :=
  State.queueNotice?_atDesk (s.setLaneScaled l _) d _

theorem forEach_atDesk {f : Nat → State → State} {d : State} (hf : ∀ i s, f i (s.atDesk d) = (f i s).atDesk d)
    (is : List Nat) (s : State) : forEach is f (s.atDesk d) = (forEach is f s).atDesk d := by
  induction is generalizing s with
  | nil => rfl
  | cons i is ih => exact (congrArg (forEach is f) (hf i s)).trans (ih (f i s))

theorem foldl_atDesk {α β : Type} {f g : State × α → β → State × α} {d : State}
    (hf : ∀ p b, g (atDeskOf d p) b = atDeskOf d (f p b)) (bs : List β) (p : State × α) :
    bs.foldl g (atDeskOf d p) = atDeskOf d (bs.foldl f p) := by
  induction bs generalizing p with
  | nil => rfl
  | cons b bs ih => rw [List.foldl_cons, List.foldl_cons, hf, ih]

/-! ### Each command keeps off the desk -/

theorem loadEntry_atDesk (s d : State) (count : Nat) (part index : Word) (write : Nat → Option TableSet) :
    loadEntry (s.atDesk d) count part index write = atDeskOf d (loadEntry s count part index write) := by
  unfold loadEntry
  split
  · split <;> rfl
  · rfl

theorem takeLoad_atDesk (part index definedWord : Word) (fields : List Word) (s d : State) :
    takeLoad part index definedWord fields (s.atDesk d) = atDeskOf d (takeLoad part index definedWord fields s) := by
  unfold takeLoad
  split
  iterate 7 exact loadEntry_atDesk s d _ _ _ _
  rfl

theorem takeActivate_atDesk (s d : State) : takeActivate (s.atDesk d) = atDeskOf d (takeActivate s) := by
  have hlatched : (s.atDesk d).latchedRows = s.latchedRows := rfl
  have hlocked : (s.atDesk d).lockedLanes = s.lockedLanes := rfl
  have hrecord : (s.atDesk d).siteRecord = s.siteRecord := rfl
  have hset : (s.atDesk d).pendingSet = s.pendingSet := rfl
  unfold takeActivate
  rw [hlatched, hlocked, hrecord, hset]
  split
  · rfl
  · dsimp only
    split <;> rfl

theorem takeSite_atDesk (fields : List Word) (s d : State) :
    takeSite fields (s.atDesk d) = atDeskOf d (takeSite fields s) := by
  have hphase : (s.atDesk d).phase = s.phase := rfl
  unfold takeSite
  rw [hphase]
  split_ifs
  · rfl
  · split
    · exact Prod.ext (forEach_atDesk (fun _ _ => rfl) _ { s with siteRecord := _ }) rfl
    · rfl

theorem State.requestOn_atDesk (s d : State) (l : Nat) : (s.atDesk d).requestOn l = (s.requestOn l).atDesk d := by
  have hlane : (s.atDesk d).lane l = s.lane l := rfl
  unfold State.requestOn
  rw [hlane]
  dsimp only
  split
  · split
    · exact s.changeLane_atDesk d l _
    · exact s.changeLane_atDesk d l _
  · rfl

theorem State.requestOff_atDesk (s d : State) (l : Nat) : (s.atDesk d).requestOff l = (s.requestOff l).atDesk d := by
  have hlane : (s.atDesk d).lane l = s.lane l := rfl
  have hzone : (s.atDesk d).zoneIs l (· == .lockout) = s.zoneIs l (· == .lockout) := rfl
  unfold State.requestOff
  rw [hlane, hzone]
  dsimp only
  split
  · rfl
  · exact s.changeLane_atDesk d l _

theorem takeLane_atDesk (lane onWord modeWord setpointGiven setpoint : Nat) (s d : State) :
    takeLane lane onWord modeWord setpointGiven setpoint (s.atDesk d) =
      atDeskOf d (takeLane lane onWord modeWord setpointGiven setpoint s) := by
  have hrequest (t : State) : (t.atDesk d).requestOnOff lane onWord = (t.requestOnOff lane onWord).atDesk d := by
    unfold State.requestOnOff
    split
    · exact t.requestOn_atDesk d lane
    · split
      · exact t.requestOff_atDesk d lane
      · rfl
  have hset : ((s.atDesk d).setLane lane (((s.atDesk d).lane lane).operate modeWord setpointGiven setpoint)) =
      (s.setLane lane ((s.lane lane).operate modeWord setpointGiven setpoint)).atDesk d := rfl
  have hrecord : (s.atDesk d).siteRecord = s.siteRecord := rfl
  have hphase : (s.atDesk d).phase = s.phase := rfl
  unfold takeLane
  rw [hset, hrequest, hrecord, hphase]
  split_ifs <;> rfl

/-- A named row's runtime without its extreme and, with the seen option, without its seen flag (R73). -/
def RowRuntime.named (q : RowRuntime) (seenGiven : Bool) : RowRuntime :=
  { q with extreme := none, seen := if seenGiven then false else q.seen }

/-- A state whose row `r` has returned to IDLE from a HELD ratio `i` (R50, R73). -/
def State.returnRow (s : State) (d : RowEntry) (r i : Nat) (q : RowRuntime) : State :=
  ((s.setRow r q.ended).setPoint i PointRecord.initial).queueNotice?
    (if d.report = .alert then some (rowNotice r .idle false none s.lastEvaluation) else none)

theorem State.setRow_setRow (s : State) (r : Nat) (v w : RowRuntime) : (s.setRow r v).setRow r w = s.setRow r w := by
  simp only [State.setRow, List.set_set]

section
variable {s : State} {seenGiven : Bool} {r : Nat} {p : State × ClearTally} {d : RowEntry} {q : RowRuntime}

theorem clearRow_of_undefined (h : p.1.activeSet.row r = none ∨ p.1.rowRuntime r = none) :
    clearRow s seenGiven r p = p := by
  unfold clearRow
  rcases h with h | h <;> rw [h]
  cases p.1.activeSet.row r <;> rfl

variable (hd : p.1.activeSet.row r = some d) (hq : p.1.rowRuntime r = some q)
include hd hq

theorem clearRow_of_latched (hphase : q.phase = .idle) (hlatched : q.latched = true) :
    clearRow s seenGiven r p =
      (p.1.setRow r (q.named seenGiven).ended, { p.2 with unlatched := p.2.unlatched + 1 }) := by
  unfold clearRow
  rw [hd, hq]
  cases q
  cases hphase
  cases hlatched
  exact Prod.ext (State.setRow_setRow p.1 r _ _) rfl

theorem clearRow_of_idle (hphase : q.phase = .idle) (hlatched : q.latched = false) :
    clearRow s seenGiven r p = (p.1.setRow r (q.named seenGiven), p.2) := by
  unfold clearRow
  rw [hd, hq]
  cases q
  cases hphase
  cases hlatched
  rfl

theorem clearRow_of_stays (hphase : q.phase ≠ .idle)
    (hstays : q.phase = .pending ∨ s.heldRatioSource r = none) :
    clearRow s seenGiven r p =
      (p.1.setRow r (q.named seenGiven), { p.2 with stayedRows := p.2.stayedRows ++ [r] }) := by
  unfold clearRow
  rw [hd, hq]
  cases h : q.phase with
  | idle => exact absurd h hphase
  | pending =>
    cases q
    cases h
    rfl
  | asserted | clearing =>
    rw [hstays.resolve_left (by simp [h])]
    cases q
    cases h
    rfl

theorem clearRow_of_returned {i : Nat} (hphase : q.phase = .asserted ∨ q.phase = .clearing)
    (hsource : s.heldRatioSource r = some i) :
    clearRow s seenGiven r p =
      (p.1.returnRow d r i (q.named seenGiven),
        { p.2 with unlatched := p.2.unlatched + q.latched.toNat, returned := p.2.returned + 1 }) := by
  unfold clearRow State.returnRow
  rw [hd, hq, hsource]
  cases q
  rcases hphase with h | h
  all_goals
    cases h
    dsimp only
    rw [State.setRow_setRow]
    by_cases hreport : d.report = .alert
    · rw [if_pos hreport, if_pos hreport]
      rfl
    · rw [if_neg hreport, if_neg hreport]
      rfl

end

@[simp] theorem State.returnRow_atDesk (s d : State) (e : RowEntry) (r i : Nat) (q : RowRuntime) :
    (s.atDesk d).returnRow e r i q = (s.returnRow e r i q).atDesk d :=
  State.queueNotice?_atDesk ((s.setRow r q.ended).setPoint i PointRecord.initial) d _

theorem clearRow_atDesk (s : State) (seenGiven : Bool) (r : Nat) (d : State) (p : State × ClearTally) :
    clearRow s seenGiven r (atDeskOf d p) = atDeskOf d (clearRow s seenGiven r p) := by
  have hrow (e : Option RowEntry) (h : p.1.activeSet.row r = e) : (atDeskOf d p).1.activeSet.row r = e := h
  have hruntime (e : Option RowRuntime) (h : p.1.rowRuntime r = e) : (atDeskOf d p).1.rowRuntime r = e := h
  cases hd : p.1.activeSet.row r with
  | none => rw [clearRow_of_undefined (.inl (hrow _ hd)), clearRow_of_undefined (.inl hd)]
  | some e =>
    cases hq : p.1.rowRuntime r with
    | none => rw [clearRow_of_undefined (.inr (hruntime _ hq)), clearRow_of_undefined (.inr hq)]
    | some q =>
      have stays (h1 : q.phase ≠ .idle) (h2 : q.phase = .pending ∨ s.heldRatioSource r = none) :
          clearRow s seenGiven r (atDeskOf d p) = atDeskOf d (clearRow s seenGiven r p) := by
        rw [clearRow_of_stays (hrow _ hd) (hruntime _ hq) h1 h2, clearRow_of_stays hd hq h1 h2]
        rfl
      have acts (h1 : q.phase = .asserted ∨ q.phase = .clearing) :
          clearRow s seenGiven r (atDeskOf d p) = atDeskOf d (clearRow s seenGiven r p) := by
        cases hsource : s.heldRatioSource r with
        | none => exact stays (by rcases h1 with h1 | h1 <;> simp [h1]) (.inr hsource)
        | some i =>
          rw [clearRow_of_returned (hrow _ hd) (hruntime _ hq) h1 hsource, clearRow_of_returned hd hq h1 hsource]
          exact Prod.ext (p.1.returnRow_atDesk d e r i _) rfl
      cases hphase : q.phase with
      | idle =>
        cases hlatched : q.latched with
        | true =>
          rw [clearRow_of_latched (hrow _ hd) (hruntime _ hq) hphase hlatched, clearRow_of_latched hd hq hphase hlatched]
          rfl
        | false =>
          rw [clearRow_of_idle (hrow _ hd) (hruntime _ hq) hphase hlatched, clearRow_of_idle hd hq hphase hlatched]
          rfl
      | pending => exact stays (by simp [hphase]) (.inl hphase)
      | asserted => exact acts (.inl hphase)
      | clearing => exact acts (.inr hphase)

theorem clearZone_atDesk (z : Nat) (d : State) (p : State × ClearTally) :
    clearZone z (atDeskOf d p) = atDeskOf d (clearZone z p) := by
  have hzones : (atDeskOf d p).1.siteRecord.zones = p.1.siteRecord.zones := rfl
  have hzone : (atDeskOf d p).1.zone z = p.1.zone z := rfl
  have hlane (l : Nat) (q : State × ClearTally) : clearZoneLane l (atDeskOf d q) = atDeskOf d (clearZoneLane l q) := by
    have hl : (atDeskOf d q).1.lane l = q.1.lane l := rfl
    unfold clearZoneLane
    rw [hl]
    dsimp only
    split
    · exact Prod.ext (State.changeLane_atDesk q.1 d l _) rfl
    · rfl
  unfold clearZone
  rw [hzones, hzone]
  dsimp only
  split
  · rfl
  · split
    · have hnotice : (((atDeskOf d p).1.setZone z ⟨.normal, 0, []⟩).queueNotice
          (zoneNotice z ⟨.normal, 0, []⟩ (atDeskOf d p).1.lastEvaluation)) =
          ((p.1.setZone z ⟨.normal, 0, []⟩).queueNotice (zoneNotice z ⟨.normal, 0, []⟩ p.1.lastEvaluation)).atDesk d :=
        State.queueNotice_atDesk (p.1.setZone z ⟨.normal, 0, []⟩) d _
      rw [hnotice]
      exact foldl_atDesk (fun q l => hlane l q) _ (_, p.2)
    · rfl

theorem clearLane_atDesk (l : Nat) (d : State) (p : State × ClearTally) :
    clearLane l (atDeskOf d p) = atDeskOf d (clearLane l p) := by
  have hlanes : (atDeskOf d p).1.siteRecord.lanes = p.1.siteRecord.lanes := rfl
  have hlane : (atDeskOf d p).1.lane l = p.1.lane l := rfl
  unfold clearLane
  rw [hlanes, hlane]
  dsimp only
  split
  · rfl
  · split
    · exact Prod.ext (State.changeLane_atDesk p.1 d l _) rfl
    · split
      · rfl
      · split <;> rfl

/-- What a CLEAR that names only indices that exist does, rows, then zones, then lanes. -/
def clearAll (seenGiven : Bool) (rows zones lanes : List Nat) (s : State) : State × ClearTally :=
  lanes.foldl (fun q l => clearLane l q)
    (zones.foldl (fun q z => clearZone z q) (rows.foldl (fun q r => clearRow s seenGiven r q) (s, ClearTally.zero)))

theorem clearAll_atDesk (seenGiven : Bool) (rows zones lanes : List Nat) (s d : State) :
    clearAll seenGiven rows zones lanes (s.atDesk d) = atDeskOf d (clearAll seenGiven rows zones lanes s) := by
  have hrows : rows.foldl (fun q r => clearRow (s.atDesk d) seenGiven r q) (s.atDesk d, ClearTally.zero) =
      atDeskOf d (rows.foldl (fun q r => clearRow s seenGiven r q) (s, ClearTally.zero)) :=
    foldl_atDesk (f := fun q r => clearRow s seenGiven r q) (g := fun q r => clearRow (s.atDesk d) seenGiven r q)
      (fun q r => clearRow_atDesk s seenGiven r d q) rows (s, ClearTally.zero)
  have hzones := foldl_atDesk (f := fun q z => clearZone z q) (g := fun q z => clearZone z q) (fun q z => clearZone_atDesk z d q) zones
  have hlanes := foldl_atDesk (f := fun q l => clearLane l q) (g := fun q l => clearLane l q) (fun q l => clearLane_atDesk l d q) lanes
  unfold clearAll
  rw [hrows, hzones, hlanes]

theorem takeClear_atDesk (seenOption : Word) (rows : List Word) (lanes zones : Word) (s d : State) :
    takeClear seenOption rows lanes zones (s.atDesk d) = atDeskOf d (takeClear seenOption rows lanes zones s) := by
  unfold takeClear
  dsimp only
  split
  · rfl
  · have h := clearAll_atDesk (seenOption == 1) (namedBits rows) (namedBits [zones]) (namedBits [lanes]) s d
    unfold clearAll at h
    rw [h]
    rfl

theorem readIndexed_atDesk (count : Nat) (index : Word) (item : Nat → ReplyData) (s d : State) :
    readIndexed count index item (s.atDesk d) = atDeskOf d (readIndexed count index item s) := by
  unfold readIndexed
  split <;> rfl

theorem takeRead_atDesk (item index part : Word) {s d : State} (h : d.linkStatistics = s.linkStatistics) :
    takeRead item index part (s.atDesk d) = atDeskOf d (takeRead item index part s) := by
  unfold takeRead
  split
  iterate 6 exact readIndexed_atDesk _ _ _ s d
  · rfl
  · rfl
  · show takeReadPendingEntry part index (s.atDesk d) = atDeskOf d (takeReadPendingEntry part index s)
    unfold takeReadPendingEntry
    dsimp only
    split
    iterate 7 exact readIndexed_atDesk _ _ _ s d
    rfl
  · simp only [takeReadLinkStatistics, State.atDesk, atDeskOf, h]
  · rfl
  · rfl
  · rfl

/-- A command that is taken neither reads nor writes the desk, but for the READ of the link statistics. -/
theorem takeCommand_atDesk (c : Command) {s d : State} (h : d.linkStatistics = s.linkStatistics) :
    takeCommand c (s.atDesk d) = atDeskOf d (takeCommand c s) := by
  cases c with
  | load part index definedWord fields => simp only [takeCommand, takeLoad_atDesk]; rfl
  | discard => rfl
  | activate => exact takeActivate_atDesk s d
  | site fields => simp only [takeCommand, takeSite_atDesk]; rfl
  | lane lane onWord modeWord given setpoint => simp only [takeCommand, takeLane_atDesk]; rfl
  | clear seenOption r0 r1 r2 r3 lanes zones => simp only [takeCommand, takeClear_atDesk]; rfl
  | read item index part => simp only [takeCommand, takeRead_atDesk _ _ _ h]; rfl
  | restart => rfl
  | unknown => rfl

/-- A command that is taken keeps the desk. -/
theorem takeCommand_fst_atDesk (c : Command) (s : State) : (takeCommand c s).1.atDesk s = (takeCommand c s).1 :=
  (congrArg Prod.fst (takeCommand_atDesk c (s := s) (d := s) rfl)).symm

theorem takeCommand_commands (c : Command) (s : State) : (takeCommand c s).1.commands = s.commands := by
  rw [← takeCommand_fst_atDesk c s]
  rfl

theorem takeCommand_replies (c : Command) (s : State) : (takeCommand c s).1.replies = s.replies := by
  rw [← takeCommand_fst_atDesk c s]
  rfl

theorem takeCommand_refusal (c : Command) (s : State) : (takeCommand c s).1.refusal = s.refusal := by
  rw [← takeCommand_fst_atDesk c s]
  rfl

theorem takeCommand_reportHold (c : Command) (s : State) : (takeCommand c s).1.reportHold = s.reportHold := by
  rw [← takeCommand_fst_atDesk c s]
  rfl

theorem takeCommand_linkStatistics (c : Command) (s : State) :
    (takeCommand c s).1.linkStatistics = s.linkStatistics := by
  rw [← takeCommand_fst_atDesk c s]
  rfl

/-! ### A command on a Ready state -/

/-- On a Ready state a command that completes is its effect and its reply. -/
theorem State.Ready.submit_completes {s t : State} (h : s.Ready) (tag : Tag) {p : List Word} {r : ReplyResult}
    {data : ReplyData} (htake : takeCommand (decodeCommand p) s = (t, some (r, data))) :
    s.submit tag p = t.answer tag (p.getD 0 0) r data := by
  have hc : t.commands = [] := by
    rw [← h.2.2.2.1, ← takeCommand_commands (decodeCommand p) s, htake]
  have htaken : takeCommand (decodeCommand p) { s with commands := [⟨tag, p⟩] } =
      atDeskOf { s with commands := [⟨tag, p⟩] } (t, some (r, data)) := by
    rw [← htake]
    exact takeCommand_atDesk (decodeCommand p) (s := s) (d := { s with commands := [⟨tag, p⟩] }) rfl
  have hdesk : t.atDesk s = t := by
    have := takeCommand_fst_atDesk (decodeCommand p) s
    rwa [htake] at this
  rw [h.submit, htaken]
  dsimp only [atDeskOf]
  rw [State.completeHead_single _ tag p r data rfl]
  have hempty : { t.atDesk { s with commands := [⟨tag, p⟩] } with commands := [] } = t.atDesk s := by
    rw [← h.2.2.2.1]
    rfl
  rw [hempty, hdesk]

/-- On a Ready state a command that waits stands alone in the queue. -/
theorem State.Ready.submit_waits {s t : State} (h : s.Ready) (tag : Tag) {p : List Word}
    (htake : takeCommand (decodeCommand p) s = (t, none)) :
    s.submit tag p = { t with commands := [⟨tag, p⟩] } := by
  have htaken : takeCommand (decodeCommand p) { s with commands := [⟨tag, p⟩] } =
      atDeskOf { s with commands := [⟨tag, p⟩] } (t, none) := by
    rw [← htake]
    exact takeCommand_atDesk (decodeCommand p) (s := s) (d := { s with commands := [⟨tag, p⟩] }) rfl
  have hdesk : t.atDesk s = t := by
    have := takeCommand_fst_atDesk (decodeCommand p) s
    rwa [htake] at this
  rw [h.submit, htaken]
  dsimp only [atDeskOf]
  conv_rhs => rw [← hdesk]
  rfl

/-- A management row on a Ready state, for a command that completes. -/
theorem State.Ready.arrive_completes {s t : State} (h : s.Ready) (tag : Tag) {ws : List Word} {r : ReplyResult}
    {data : ReplyData} (htake : takeCommand (decodeCommand (payloadOf ws)) s = (t, some (r, data))) :
    s.arrive tag ws = t.answer tag ((payloadOf ws).getD 0 0) r data :=
  (h.arrive tag ws).trans (h.submit_completes tag htake)

/-- A management row on a Ready state, for a command that waits. -/
theorem State.Ready.arrive_waits {s t : State} (h : s.Ready) (tag : Tag) {ws : List Word}
    (htake : takeCommand (decodeCommand (payloadOf ws)) s = (t, none)) :
    s.arrive tag ws = { t with commands := [⟨tag, payloadOf ws⟩] } :=
  (h.arrive tag ws).trans (h.submit_waits tag htake)

end Sys2Proof.Machine

/-! PROOFS. Management commands on a Ready state: UNKNOWN, RESTART, the READs, and the alert set. -/

namespace Sys2Proof.Machine

/-- A row on a Ready state that carries a command which completes: the effect, and one reply of the row's kind. -/
theorem State.Ready.exec_completes {s t : State} (h : s.Ready) {c : Instr} {tag : Tag} {kind : Word} {ws : List Word}
    {r : ReplyResult} {data : ReplyData} (hrow : exec c s = .next (s.arrive tag (kind :: ws)))
    (htake : takeCommand (decodeCommand (payloadOf (kind :: ws))) s = (t, some (r, data))) :
    exec c s = .next (t.answer tag kind r data) := by
  rw [hrow, h.arrive_completes tag htake]
  rfl

/-! ### UNKNOWN and RESTART -/

theorem decodeCommand_of_unknown {p : List Word} (h : p.getD 0 0 = 0 ∨ 8 < (p.getD 0 0).toNat) :
    decodeCommand p = .unknown := by
  have hkind : frameWord p 3 = p.getD 0 0 := rfl
  have hnat : (p.getD 0 0).toNat = 0 ∨ 8 < (p.getD 0 0).toNat := h.imp_left fun h => by rw [h]; rfl
  unfold decodeCommand
  rw [hkind]
  split
  iterate 8 omega
  rfl

/-- Settles O60. -/
theorem unknownCommandIsAnsweredUnknown : Obligations.UnknownCommandIsAnsweredUnknown := by
  unfold Obligations.UnknownCommandIsAnsweredUnknown
  intro s tag kind arguments h hkind
  refine h.exec_completes (ws := arguments) rfl ?_
  rw [decodeCommand_of_unknown (p := payloadOf (kind :: arguments)) hkind]
  rfl

/-- Settles O59: RESTART's three groups of fields, written out. -/
theorem restartClearsTheProtection : Obligations.RestartClearsTheProtection := by
  unfold Obligations.RestartClearsTheProtection
  intro s tag h
  exact h.exec_completes (ws := []) rfl rfl

/-! ### READ -/

theorem readIndexed_of_lt {count : Nat} {index : Word} (h : index.toNat < count) (item : Nat → ReplyData) (s : State) :
    readIndexed count index item s = (s, .done, item index.toNat) :=
  if_pos h

theorem readIndexed_of_le {count : Nat} {index : Word} (h : count ≤ index.toNat) (item : Nat → ReplyData) (s : State) :
    readIndexed count index item s = (s, .range, .empty) :=
  if_neg (Nat.not_lt.mpr h)

/-- A READ that is one indexed read returns its item or RANGE. -/
theorem readReturns_of_indexed {cmd : Tag → Word → Instr} {count : Nat} {item : State → Nat → ReplyData} {code : Word}
    (hrow : ∀ s tag index, exec (cmd tag index) s = .next (s.arrive tag [7, code, index]))
    (htake : ∀ s index, takeRead code index 0 s = readIndexed count index (item s) s) : ReadReturns cmd count item := by
  intro s tag index h
  have hcommand : takeCommand (decodeCommand (payloadOf [7, code, index])) s =
      ((takeRead code index 0 s).1, some (takeRead code index 0 s).2) := rfl
  constructor
  · intro hindex
    refine h.exec_completes (hrow s tag index) ?_
    rw [hcommand, htake, readIndexed_of_lt hindex]
  · intro hindex
    refine h.exec_completes (hrow s tag index) ?_
    rw [hcommand, htake, readIndexed_of_le hindex]

/-- Settles O56. -/
theorem indexedReadsReturnTheirItem : Obligations.IndexedReadsReturnTheirItem := by
  unfold Obligations.IndexedReadsReturnTheirItem
  refine ⟨?_, ?_, ?_, ?_, ?_, ?_⟩
  · exact readReturns_of_indexed (code := 0) (fun _ _ _ => rfl) fun _ _ => rfl
  · refine readReturns_of_indexed (code := 1) (fun _ _ _ => rfl) fun s index => ?_
    have hzone : takeRead 1 index 0 s = takeReadZone index s := rfl
    rw [hzone]
    refine congrArg (fun item => readIndexed 8 index item s) (funext fun z => ?_)
    split
    · rename_i hz
      congr 1
      refine List.filter_congr fun l hl => ?_
      simp [TableSet.isMember, List.mem_range.mp hl]
    · rfl
  · exact readReturns_of_indexed (code := 2) (fun _ _ _ => rfl) fun _ _ => rfl
  · exact readReturns_of_indexed (code := 3) (fun _ _ _ => rfl) fun _ _ => rfl
  · exact readReturns_of_indexed (code := 4) (fun _ _ _ => rfl) fun _ _ => rfl
  · exact readReturns_of_indexed (code := 5) (fun _ _ _ => rfl) fun _ _ => rfl

/-- Settles O57. -/
theorem otherReadsReturnTheirItem : Obligations.OtherReadsReturnTheirItem := by
  unfold Obligations.OtherReadsReturnTheirItem
  intro s tag index part h
  have hpending : s.activationPending = false := by simp [State.activationPending, h.2.2.1]
  have hsite : takeCommand (decodeCommand (payloadOf [7, 6])) s =
      (s, some (.done, .siteRecord s.siteRecord s.phase s.activationPending s.budget)) := rfl
  rw [hpending] at hsite
  refine ⟨h.exec_completes rfl hsite, h.exec_completes (ws := [7]) rfl rfl, h.exec_completes (ws := [9]) rfl rfl,
    h.exec_completes (ws := [10]) rfl rfl, h.exec_completes (ws := [11]) rfl rfl, ?_⟩
  have hcommand : takeCommand (decodeCommand (payloadOf [7, 8, index, part])) s =
      ((takeReadPendingEntry part index s).1, some (takeReadPendingEntry part index s).2) := rfl
  have indexed (count : Nat) (item : Nat → PendingEntry)
      (htake : takeReadPendingEntry part index s = readIndexed count index (fun i => .pendingEntry (item i)) s) :
      exec (.readPendingEntry tag index part) s =
        match (if index.toNat < count then some (item index.toNat) else none) with
        | some e => .next (s.answer tag 7 .done (.pendingEntry e))
        | none => .next (s.answer tag 7 .range .empty) := by
    rw [htake] at hcommand
    split
    · rename_i e he
      obtain ⟨hindex, he⟩ := Option.ite_none_right_eq_some.mp he
      cases he
      rw [readIndexed_of_lt hindex] at hcommand
      exact h.exec_completes rfl hcommand
    · rename_i he
      rw [readIndexed_of_le (by simpa using he)] at hcommand
      exact h.exec_completes rfl hcommand
  obtain ⟨taken, htaken⟩ : ∃ taken, taken = takeReadPendingEntry part index s := ⟨_, rfl⟩
  rw [← htaken] at hcommand indexed
  unfold takeReadPendingEntry at htaken
  generalize part.toNat = n at htaken ⊢
  match n with
  | 0 => exact indexed 64 _ htaken
  | 1 => exact indexed 16 _ htaken
  | 2 => exact indexed 4 _ htaken
  | 3 => exact indexed 48 _ htaken
  | 4 => exact indexed 8 _ htaken
  | 5 => exact indexed 8 _ htaken
  | 6 => exact indexed 1 _ htaken
  | n + 7 =>
    rw [htaken] at hcommand
    exact h.exec_completes rfl hcommand

/-! ### The alert set and the site summary -/

theorem State.effectiveRow_iff (s : State) (p : RowEntry → Bool) (r : Nat) :
    s.effectiveRow p r = true ↔ ∃ d q, s.activeSet.row r = some d ∧ s.rowRuntime r = some q ∧ q.effective = true ∧
      p d = true := by
  unfold State.effectiveRow
  cases s.activeSet.row r <;> cases s.rowRuntime r <;> simp

theorem RowRuntime.effective_iff (q : RowRuntime) :
    q.effective = true ↔ q.phase = .asserted ∨ q.phase = .clearing ∨ q.latched = true := by
  simp [RowRuntime.effective, or_assoc]

theorem testBit_bitsOf (bs : List Bool) (i : Nat) : (bitsOf bs).testBit i = bs.getD i false := by
  induction bs generalizing i with
  | nil => simp [bitsOf]
  | cons b bs ih =>
    cases i with
    | zero => cases b <;> simp [bitsOf, Nat.testBit_zero]
    | succ i =>
      have hhalf : (b.toNat + 2 * bitsOf bs) / 2 = bitsOf bs := by cases b <;> simp; omega
      rw [bitsOf, Nat.testBit_add_one, hhalf, ih]
      rfl

theorem AlertSet.not_isEmpty_iff (a : AlertSet) : (!a.isEmpty) = true ↔
    (∃ r, r ∈ a.rows) ∨ (∃ l, l ∈ a.lanes) ∨ (∃ k, k ∈ a.headLost) ∨ a.senseBlind = true ∨ a.linkLoss = true ∨
      a.inhibit = true ∨ a.arcLineStuck = true := by
  have hlist (xs : List Nat) : xs.isEmpty = false ↔ ∃ x, x ∈ xs := by
    rw [List.isEmpty_eq_false_iff_exists_mem]
  simp only [AlertSet.isEmpty, Bool.not_eq_true', Bool.and_eq_false_iff, hlist, Bool.not_eq_false', or_assoc]

/-- Settles O58: the set's members one by one, and the site summary bit by bit. -/
theorem alertFollowsItsMembers : Obligations.AlertFollowsItsMembers := by
  unfold Obligations.AlertFollowsItsMembers
  intro s hreset
  have hset : s.alertSet =
      { rows := (List.range rowCount).filter (s.effectiveRow fun d => d.report == .alert), lanes := s.lockedLanes
        headLost := (List.range headCount).filter s.isHeadLost, senseBlind := s.senseBlind, linkLoss := s.linkLoss
        inhibit := s.forceInhibit, arcLineStuck := s.arcMasked } := by
    simp [State.alertSet, hreset, State.arcLineStuck]
  have hloss : s.linkLoss = true ↔ s.link ≠ .locked := by simp [State.linkLoss]
  have hbit (i : Nat) (hi : i < 16) : s.siteSummary.getLsbD i = true ↔
      [s.phase == .service, s.alertLow, s.senseBlind, s.forceInhibit, s.linkLoss,
        (List.range laneCount).any fun l => (s.lane l).state == .lockout,
        (List.range laneCount).any fun l => (s.lane l).state == .muted, s.noticesDropped,
        s.activationPending].getD i false = true := by
    simp only [State.siteSummary, BitVec.getLsbD_ofNat, testBit_bitsOf, hi, decide_true, Bool.true_and]
  refine ⟨fun r => ?_, fun l => ?_, fun k => ?_, by rw [hset], ?_, by rw [hset], by rw [hset], ?_, ?_⟩
  · simp only [hset, List.mem_filter, List.mem_range, State.effectiveRow_iff, RowRuntime.effective_iff, beq_iff_eq]
    grind
  · simp only [hset, State.lockedLanes, List.mem_filter, List.mem_range, beq_iff_eq]
  · simp only [hset, List.mem_filter, List.mem_range]
  · rw [hset]
    exact hloss
  · unfold State.alertLow
    rw [AlertSet.not_isEmpty_iff, hset]
    simp only [hloss]
  · have hlow (i : Nat) (hi : i < 9) := hbit i (by omega)
    refine ⟨(hlow 0 (by decide)).trans ?_, (hlow 1 (by decide)).trans ?_, (hlow 2 (by decide)).trans ?_,
      (hlow 3 (by decide)).trans ?_, (hlow 4 (by decide)).trans ?_, (hlow 5 (by decide)).trans ?_,
      (hlow 6 (by decide)).trans ?_, (hlow 7 (by decide)).trans ?_, (hlow 8 (by decide)).trans ?_, fun i hi => ?_⟩
    iterate 9 simp [hloss, State.activationPending]
    by_cases hwidth : i < 16
    · beta_reduce
      rw [hbit i hwidth, List.getD_eq_default _ _ (by simpa using hi)]
      simp
    · simp [BitVec.getLsbD_of_ge _ _ (Nat.not_lt.mp hwidth)]

end Sys2Proof.Machine

/-! PROOFS. The LANE requests and SITE on a Ready state. -/

namespace Sys2Proof.Machine

/-! ### One lane's change as a whole record -/

theorem State.queueNotice_frame (s : State) (n : Notice) : s.queueNotice n =
    { s with
      notices := (s.queueNotice n).notices, noticesDropped := (s.queueNotice n).noticesDropped
      droppedCount := (s.queueNotice n).droppedCount } := by
  unfold State.queueNotice
  split_ifs <;> rfl

theorem State.queueNotice?_frame (s : State) (n : Option Notice) : s.queueNotice? n =
    { s with
      notices := (s.queueNotice? n).notices, noticesDropped := (s.queueNotice? n).noticesDropped
      droppedCount := (s.queueNotice? n).droppedCount } := by
  cases n with
  | none => rfl
  | some n => exact s.queueNotice_frame n

/-- A lane's change outside lane handling touches the lane, its multiplier and the notice queue alone. -/
theorem State.changeLane_frame (s : State) (l : Nat) (v : Lane) : s.changeLane l v =
    { s with
      lanes := s.lanes.set l (v.arriving (s.lane l).state s.lastEvaluation)
      multipliers := s.multipliers.set l (multiplierOf v.applied)
      notices := (s.changeLane l v).notices, noticesDropped := (s.changeLane l v).noticesDropped
      droppedCount := (s.changeLane l v).droppedCount } := by
  have h := (s.setLaneScaled l (v.arriving (s.lane l).state s.lastEvaluation)).queueNotice?_frame
    (laneChangeNotice l (s.lane l).state (v.arriving (s.lane l).state s.lastEvaluation))
  rw [← State.changeLane_eq] at h
  rw [h]
  simp [State.setLaneScaled, State.setLane, State.handOver]

/-- A lane's change queues the notice that it asks for, if any. -/
theorem State.changeLane_noticesOf (s : State) (l : Nat) (v : Lane) : (s.changeLane l v).NoticesOf (s.queuing
    (laneChangeNotice l (s.lane l).state (v.arriving (s.lane l).state s.lastEvaluation)).toList) := by
  rw [State.changeLane_eq, State.queueNotice?_eq_queuing]
  exact State.NoticesOf.queuing
    (s := s.setLaneScaled l (v.arriving (s.lane l).state s.lastEvaluation)) (t := s) ⟨rfl, rfl, rfl⟩ _

theorem laneChangeNotice_of_noticed {old : LaneState} {v : Lane} (hother : old ≠ v.state)
    (h : old.noticed = true ∨ v.state.noticed = true) (l : Nat) : laneChangeNotice l old v = some (laneNotice l v) := by
  unfold laneChangeNotice
  exact if_pos ⟨hother, by simpa using h⟩

theorem laneChangeNotice_of_unnoticed {old : LaneState} {v : Lane} (hold : old.noticed = false)
    (hnew : v.state.noticed = false) (l : Nat) : laneChangeNotice l old v = none := by
  unfold laneChangeNotice
  exact if_neg fun h => by simp [hold, hnew] at h

theorem laneChangeNotice_of_same {old : LaneState} {v : Lane} (h : old = v.state) (l : Nat) :
    laneChangeNotice l old v = none := by
  unfold laneChangeNotice
  exact if_neg fun hn => hn.1 h

theorem State.setLane_same (s : State) (l : Nat) : s.setLane l (s.lane l) = s := by
  unfold State.setLane State.lane
  rw [set_getD_self]

/-! ### A LANE command -/

section
variable {s : State} {lane onWord modeWord given setpoint : Nat}

theorem takeLane_of_beyond (h : s.siteRecord.lanes ≤ lane) :
    takeLane lane onWord modeWord given setpoint s = (s, .range, .empty) := by
  unfold takeLane
  rw [if_pos h]
  exact ite_self _

theorem takeLane_of_mode (h : 2 < modeWord) : takeLane lane onWord modeWord given setpoint s = (s, .range, .empty) :=
  if_pos (.inr (.inr (.inl h)))

/-- A LANE command that passes the range checks: STATE for an on request in SETUP. -/
theorem takeLane_of_setup (hl : lane < s.siteRecord.lanes) (hL : s.siteRecord.lanes ≤ laneCount)
    (hsetup : s.phase = .setup) : takeLane lane 1 0 0 0 s = (s, .state, .empty) := by
  have hseven : lane ≤ 7 := Nat.lt_succ_iff.mp (Nat.lt_of_lt_of_le hl hL)
  unfold takeLane
  rw [if_neg (by omega), if_neg (by omega), if_pos ⟨rfl, hsetup⟩]

/-- A LANE command that passes all three checks: its requests, and the lane in force in the reply. -/
theorem takeLane_of_legal (hl : lane < s.siteRecord.lanes) (hL : s.siteRecord.lanes ≤ laneCount) (hon : onWord ≤ 2)
    (hmode : modeWord ≤ 2) (hgiven : given ≤ 1) (hphase : onWord = 1 → s.phase = .service) {t : State}
    (ht : (s.setLane lane ((s.lane lane).operate modeWord given setpoint)).requestOnOff lane onWord = t) :
    takeLane lane onWord modeWord given setpoint s =
      (t, .done, .laneInForce (t.lane lane).state (t.lane lane).onRequest (t.lane lane).mode (t.lane lane).setpoint) := by
  have hseven : lane ≤ 7 := Nat.lt_succ_iff.mp (Nat.lt_of_lt_of_le hl hL)
  have hsetup : ¬ (onWord = 1 ∧ s.phase = .setup) := fun h => by
    have := hphase h.1
    rw [h.2] at this
    cases this
  unfold takeLane
  rw [if_neg (by omega), if_neg (by omega), if_neg hsetup, ht]

end

/-- A LANE row on a Ready state. -/
theorem State.Ready.lane_completes {s t : State} (h : s.Ready) {c : Instr} {tag : Tag}
    {lane onWord modeWord given setpoint : Word} {r : ReplyResult} {data : ReplyData}
    (hrow : exec c s = .next (s.arrive tag [5, lane, onWord, modeWord, given, setpoint]))
    (htake : takeLane lane.toNat onWord.toNat modeWord.toNat given.toNat setpoint.toNat s = (t, r, data)) :
    exec c s = .next (t.answer tag 5 r data) := by
  have hcommand : takeCommand (decodeCommand (payloadOf [5, lane, onWord, modeWord, given, setpoint])) s =
      ((takeLane lane.toNat onWord.toNat modeWord.toNat given.toNat setpoint.toNat s).1,
        some (takeLane lane.toNat onWord.toNat modeWord.toNat given.toNat setpoint.toNat s).2) := rfl
  rw [htake] at hcommand
  exact h.exec_completes hrow hcommand

/-- Settles O53. -/
theorem laneModeAndSetpointAreWritten : Obligations.LaneModeAndSetpointAreWritten := by
  unfold Obligations.LaneModeAndSetpointAreWritten
  intro s tag lane value h hlength hL l v
  have written (hl : l < s.siteRecord.lanes) (w : Lane) : (s.setLane l w).lane l = w :=
    State.lane_of_set rfl (hlength ▸ Nat.lt_of_lt_of_le hl hL)
  refine ⟨fun hl => ⟨?_, ?_⟩, fun hmode => ?_, fun hl hmode => ?_, fun hl => ?_⟩
  · exact h.lane_completes rfl (takeLane_of_beyond hl)
  · exact h.lane_completes rfl (takeLane_of_beyond hl)
  · exact h.lane_completes rfl (takeLane_of_mode hmode)
  · have hcode (k : Word) : value.toNat = k.toNat ↔ value = k := BitVec.toNat_inj
    have hw : v.operate value.toNat 0 0 =
        { v with mode := if value = 1 then .full else if value = 2 then .reduced else v.mode } := by
      simp only [Lane.operate, ← hcode]
      rfl
    have htake := takeLane_of_legal (onWord := 0) (given := 0) (setpoint := 0) hl hL (by omega) hmode (by omega) (by simp) rfl
    have ht : (s.setLane l (v.operate value.toNat 0 0)).requestOnOff l 0 = s.setLane l (v.operate value.toNat 0 0) := rfl
    rw [ht, written hl, hw] at htake
    exact h.lane_completes rfl htake
  · have hw : v.operate 0 1 value.toNat = { v with setpoint := min value.toNat 1250 } := rfl
    have htake := takeLane_of_legal (onWord := 0) (modeWord := 0) (setpoint := value.toNat) hl hL (by omega) (by omega)
      (le_refl 1) (by simp) rfl
    have ht : (s.setLane l (v.operate 0 1 value.toNat)).requestOnOff l 0 = s.setLane l (v.operate 0 1 value.toNat) := rfl
    rw [ht, written hl, hw] at htake
    exact h.lane_completes rfl htake

/-- A LANE command that requests on or off alone. -/
theorem State.setLane_operate_none (s : State) (l : Nat) : s.setLane l ((s.lane l).operate 0 0 0) = s :=
  s.setLane_same l

/-- Settles O52. -/
theorem laneOffSilencesTheLane : Obligations.LaneOffSilencesTheLane := by
  unfold Obligations.LaneOffSilencesTheLane
  intro s tag lane h hlength hL l v zoneLocked
  have inTable (hl : l < s.siteRecord.lanes) : l < s.lanes.length := hlength ▸ Nat.lt_of_lt_of_le hl hL
  have hzone : s.zoneIs l (· == .lockout) = true ↔ zoneLocked := by
    unfold State.zoneIs
    cases hz : s.activeSet.zoneOf l <;> simp [zoneLocked, hz]
  have taken (hl : l < s.siteRecord.lanes) {t : State} (ht : s.requestOff l = t) :=
    takeLane_of_legal (onWord := 2) (modeWord := 0) (given := 0) (setpoint := 0) hl hL (le_refl 2) (by omega) (by omega)
      (by simp) (t := t) (by rw [s.setLane_operate_none]; exact ht)
  refine ⟨fun hl => h.lane_completes rfl (takeLane_of_beyond hl), fun hl hlocked => ?_, fun hl hlocked => ?_⟩
  · have ht : s.requestOff l = s.setLane l { v with onRequest := false } := if_pos (hzone.mpr hlocked)
    have htake := taken hl ht
    rw [State.lane_of_set rfl (inTable hl)] at htake
    exact h.lane_completes rfl htake
  · have ht : s.requestOff l = s.changeLane l { v with onRequest := false }.turnedOff :=
      if_neg (mt hzone.mp hlocked)
    have htake := taken hl ht
    have hw : { v with onRequest := false }.turnedOff.arriving v.state s.lastEvaluation =
        { v with
            onRequest := false, state := .off, target := 0, applied := 0, probeRemaining := 0, retriesUsed := 0
            probeOwed := false, muteInvolvedLatch := false
            stateEntrySweep := if v.state = .off then v.stateEntrySweep else s.lastEvaluation
            restriking := if v.state = .off then v.restriking else false } := by
      by_cases hoff : v.state = .off
      · rw [Lane.arriving_of_same hoff, if_pos hoff, if_pos hoff]
        rfl
      · rw [Lane.arriving_of_other hoff, if_neg hoff, if_neg hoff]
        rfl
    have hlane := State.lane_of_set (s.changeLane_lanes l { v with onRequest := false }.turnedOff) (inTable hl)
    rw [hw] at hlane
    rw [hlane] at htake
    have hnotices := s.changeLane_noticesOf l { v with onRequest := false }.turnedOff
    rw [hw] at hnotices
    refine ⟨_, h.lane_completes rfl htake, ?_, fun hnoticed => ?_, fun h1 h2 h3 => ?_⟩
    · have hframe := s.changeLane_frame l { v with onRequest := false }.turnedOff
      have hsilent : multiplierOf { v with onRequest := false }.turnedOff.applied = 0 := multiplierOf_zero
      rw [hw, hsilent] at hframe
      exact hframe
    · have hother : v.state ≠ .off := by
        intro ho
        rw [ho] at hnoticed
        rcases hnoticed with h | h | h <;> cases h
      rw [laneChangeNotice_of_noticed hother (.inl (by rcases hnoticed with h | h | h <;> rw [h] <;> rfl))] at hnotices
      simpa [laneNotice, hother] using hnotices
    · rw [laneChangeNotice_of_unnoticed (by simp [LaneState.noticed, v, h1, h2, h3]) rfl] at hnotices
      exact hnotices

/-! ### Turning on -/

theorem State.probesAtTurnOn_iff (s : State) (l : Nat) : s.probesAtTurnOn l = true ↔
    (((s.activeSet.plan l).map (·.probePolicy)).getD .followStrap = .always ∨
      (((s.activeSet.plan l).map (·.probePolicy)).getD .followStrap = .followStrap ∧ s.probePolHigh = false) ∨
      (s.lane l).firstTurnOnDone = false) := by
  unfold State.probesAtTurnOn State.lanePolicy
  cases ((s.activeSet.plan l).map (·.probePolicy)).getD .followStrap <;> cases s.probePolHigh <;>
    simp [policyInForce]

/-- A lane record that was OFF takes the entry sweep with its new state. -/
theorem Lane.arriving_from_off {v : Lane} (h : v.state ≠ .off) (sweep : SweepNo) :
    v.arriving .off sweep = { v with stateEntrySweep := sweep, restriking := false } :=
  Lane.arriving_of_other (Ne.symm h) sweep

theorem Lane.turnedOn_state_ne_off (v : Lane) (probe : Bool) (n : Nat) : (v.turnedOn probe n).state ≠ .off := by
  cases probe <;> simp [Lane.turnedOn, Lane.enterProbe]

/-- Settles O51, by the lane's state and, in OFF, by its lockout cause. -/
theorem laneOnTurnsTheLaneOn : Obligations.LaneOnTurnsTheLaneOn := by
  unfold Obligations.LaneOnTurnsTheLaneOn
  intro s tag lane h hlength hL l v policy probes
  have hprobes : s.probesAtTurnOn l = true ↔ probes := s.probesAtTurnOn_iff l
  refine ⟨fun hl => h.lane_completes rfl (takeLane_of_beyond hl), fun hl hsetup =>
    h.lane_completes rfl (takeLane_of_setup hl hL hsetup), fun hl hservice => ?_⟩
  have inTable : l < s.lanes.length := hlength ▸ Nat.lt_of_lt_of_le hl hL
  have taken {t : State} (ht : s.requestOn l = t) :=
    takeLane_of_legal (onWord := 1) (modeWord := 0) (given := 0) (setpoint := 0) hl hL (by omega) (by omega) (by omega)
      (fun _ => hservice) (t := t) (by rw [s.setLane_operate_none]; exact ht)
  have answered {t : State} {w : Lane} (ht : s.requestOn l = t) (hlanes : t.lanes = s.lanes.set l w)
      (hon : w.onRequest = true) : exec (.laneOn tag lane) s =
        .next (t.answer tag 5 .done (.laneInForce w.state true w.mode w.setpoint)) := by
    have htake := taken ht
    rw [State.lane_of_set hlanes inTable, hon] at htake
    exact h.lane_completes rfl htake
  by_cases hoff : v.state = .off
  · have moved {u w : Lane} {m : Nat} (hm : multiplierOf u.applied = m) (ht : s.requestOn l = s.changeLane l u) (hu : u.state ≠ .off)
        (hw : { u with stateEntrySweep := s.lastEvaluation, restriking := false } = w) (hon : w.onRequest = true) :
        exec (.laneOn tag lane) s = .next ((s.changeLane l u).answer tag 5 .done
          (.laneInForce w.state true w.mode w.setpoint)) ∧
        s.changeLane l u = { s with
          lanes := s.lanes.set l w, multipliers := s.multipliers.set l m
          notices := (s.changeLane l u).notices, noticesDropped := (s.changeLane l u).noticesDropped
          droppedCount := (s.changeLane l u).droppedCount } ∧
        (s.changeLane l u).NoticesOf (s.queuing (laneChangeNotice l .off w).toList) := by
      have hlanes := s.changeLane_lanes l u
      have hframe := s.changeLane_frame l u
      have hnotices := s.changeLane_noticesOf l u
      have hstate : (s.lane l).state = .off := hoff
      rw [hstate, Lane.arriving_from_off hu, hw] at hlanes hframe hnotices
      rw [hm] at hframe
      exact ⟨answered ht hlanes hon, hframe, hnotices⟩
    by_cases hcause : v.lockoutCause = .probe
    · have ht : s.requestOn l = s.changeLane l { v with onRequest := true, state := .lockout } := by
        unfold State.requestOn
        exact (if_pos hoff).trans (if_pos hcause)
      obtain ⟨hexec, hframe, hnotices⟩ := moved rfl ht (by simp) rfl rfl
      rw [laneChangeNotice_of_noticed (by simp) (.inr rfl)] at hnotices
      refine ⟨_, _, hexec, hframe.trans ?_, fun _ _ => ⟨rfl, congrArg State.multipliers hframe, ?_⟩,
        fun _ h => absurd hcause h, fun h => absurd hoff h⟩
      · rw [congrArg State.multipliers hframe]
      · simpa [laneNotice, hcause] using hnotices
    · have turned {u : Lane} {probe : Bool} (hp : s.probesAtTurnOn l = probe)
          (hu : { v with onRequest := true }.turnedOn probe s.activeSet.parameters.probeLength = u) :
          s.requestOn l = s.changeLane l u := by
        rw [← hu, ← hp]
        unfold State.requestOn
        exact (if_pos hoff).trans (if_neg hcause)
      by_cases hp : probes
      · obtain ⟨hexec, hframe, hnotices⟩ := moved multiplierOf_zero
          (turned (hprobes.mpr hp) rfl) (Lane.turnedOn_state_ne_off _ _ _) rfl rfl
        refine ⟨_, _, hexec, hframe.trans ?_, fun _ h => absurd h hcause,
          fun _ _ => ⟨congrArg State.multipliers hframe, hnotices, fun _ => rfl, fun h => absurd hp h⟩,
          fun h => absurd hoff h⟩
        rw [congrArg State.multipliers hframe]
      · obtain ⟨hexec, hframe, hnotices⟩ := moved multiplierOf_zero
          (turned (eq_false_of_ne_true (mt hprobes.mp hp)) rfl) (Lane.turnedOn_state_ne_off _ _ _) rfl rfl
        refine ⟨_, _, hexec, hframe.trans ?_, fun _ h => absurd h hcause,
          fun _ _ => ⟨congrArg State.multipliers hframe, hnotices, fun h => absurd h hp, fun _ => rfl⟩,
          fun h => absurd hoff h⟩
        rw [congrArg State.multipliers hframe]
  · have ht : s.requestOn l = s.setLane l { v with onRequest := true } := if_neg hoff
    refine ⟨_, { v with onRequest := true }, answered ht rfl rfl, rfl, fun h => absurd h hoff, fun h => absurd h hoff,
      fun _ => ⟨rfl, rfl, State.NoticesOf.refl s⟩⟩

/-! ### SITE -/

/-- Lanes at distinct indices rewritten with their scales, each from its own record. -/
theorem forEach_setLaneScaled (f : Lane → Lane) (ls : List Nat) (hnodup : ls.Nodup) (s : State)
    (hlanes : ∀ l ∈ ls, l < s.lanes.length) (hmultipliers : ∀ l ∈ ls, l < s.multipliers.length) :
    let t := forEach ls (fun l t => t.setLaneScaled l (f (t.lane l))) s
    t = { s with lanes := t.lanes, multipliers := t.multipliers } ∧
    ∀ l, (l ∈ ls → t.lane l = f (s.lane l) ∧ t.multiplier l = multiplierOf (f (s.lane l)).applied) ∧
      (l ∉ ls → t.lane l = s.lane l ∧ t.multiplier l = s.multiplier l) := by
  induction ls generalizing s with
  | nil => exact ⟨rfl, fun l => ⟨fun h => absurd h List.not_mem_nil, fun _ => ⟨rfl, rfl⟩⟩⟩
  | cons k ls ih =>
    obtain ⟨hk, hnodup⟩ := List.nodup_cons.mp hnodup
    have hset : (s.setLaneScaled k (f (s.lane k))).lanes = s.lanes.set k (f (s.lane k)) := rfl
    have hmul : (s.setLaneScaled k (f (s.lane k))).multipliers =
      s.multipliers.set k (multiplierOf (f (s.lane k)).applied) := rfl
    obtain ⟨hframe, hrest⟩ := ih hnodup (s.setLaneScaled k (f (s.lane k)))
      (fun l hl => by rw [hset, List.length_set]; exact hlanes l (List.mem_cons_of_mem k hl))
      (fun l hl => by rw [hmul, List.length_set]; exact hmultipliers l (List.mem_cons_of_mem k hl))
    refine ⟨hframe, fun l => ⟨fun hl => ?_, fun hl => ?_⟩⟩
    · by_cases hlk : l = k
      · subst hlk
        obtain ⟨h1, h2⟩ := (hrest l).2 hk
        exact ⟨h1.trans (State.lane_of_set hset (hlanes l List.mem_cons_self)),
          h2.trans (State.multiplier_of_set hmul (hmultipliers l List.mem_cons_self))⟩
      · obtain ⟨h1, h2⟩ := (hrest l).1 ((List.mem_cons.mp hl).resolve_left hlk)
        rw [State.lane_of_set_ne hset (Ne.symm hlk)] at h1 h2
        exact ⟨h1, h2⟩
    · obtain ⟨hlk, hl⟩ := not_or.mp (mt List.mem_cons.mpr hl)
      obtain ⟨h1, h2⟩ := (hrest l).2 hl
      exact ⟨h1.trans (State.lane_of_set_ne hset (Ne.symm hlk)),
        h2.trans (State.multiplier_of_set_ne hmul (Ne.symm hlk))⟩

theorem inRange_eq_some {low high v w : Nat} : inRange low high v = some w ↔ low ≤ v ∧ v ≤ high ∧ v = w := by
  unfold inRange
  rw [Option.ite_none_right_eq_some, Option.some.injEq, and_assoc]

/-- The fields of SITE make a record exactly when each lies in its range. -/
theorem parseSite_eq_some {f : List Word} {r : SiteRecord} : parseSite f = some r ↔
    (1 ≤ arg f 0 ∧ arg f 0 ≤ 8) ∧ (arg f 1 = 1 ∨ arg f 1 = 2 ∨ arg f 1 = 4 ∨ arg f 1 = 8) ∧ arg f 1 ≤ arg f 0 ∧
    (1 ≤ arg f 2 ∧ arg f 2 ≤ 16) ∧ (1 ≤ arg f 3 ∧ arg f 3 ≤ 100) ∧ (1 ≤ arg f 4 ∧ arg f 4 ≤ 15) ∧
    (10 ≤ arg f 5 ∧ arg f 5 ≤ 200) ∧ (1 ≤ arg32 f 6 ∧ arg32 f 6 ≤ 1000000) ∧
    r = { lanes := arg f 0, zones := arg f 1, heads := arg f 2, sweepPeriod := arg f 3, failLimit := arg f 4
          ratioFloor := arg f 5, siteMaximum := arg32 f 6 } := by
  unfold parseSite
  by_cases hz : arg f 1 = 1 ∨ arg f 1 = 2 ∨ arg f 1 = 4 ∨ arg f 1 = 8
  · simp only [Option.bind_eq_bind, Option.bind_eq_some_iff, inRange_eq_some, if_pos hz, Option.pure_def, Option.some.injEq]
    constructor
    · rintro ⟨_, ⟨h1, h2, rfl⟩, _, ⟨-, h4, rfl⟩, _, ⟨h5, h6, rfl⟩, _, ⟨h7, h8, rfl⟩, _, ⟨h9, h10, rfl⟩,
        _, ⟨h11, h12, rfl⟩, _, ⟨h13, h14, rfl⟩, rfl⟩
      exact ⟨⟨h1, h2⟩, hz, h4, ⟨h5, h6⟩, ⟨h7, h8⟩, ⟨h9, h10⟩, ⟨h11, h12⟩, ⟨h13, h14⟩, rfl⟩
    · rintro ⟨⟨h1, h2⟩, -, h4, ⟨h5, h6⟩, ⟨h7, h8⟩, ⟨h9, h10⟩, ⟨h11, h12⟩, ⟨h13, h14⟩, rfl⟩
      exact ⟨_, ⟨h1, h2, rfl⟩, _, ⟨by omega, h4, rfl⟩, _, ⟨h5, h6, rfl⟩, _, ⟨h7, h8, rfl⟩, _, ⟨h9, h10, rfl⟩,
        _, ⟨h11, h12, rfl⟩, _, ⟨h13, h14, rfl⟩, rfl⟩
  · simp [hz]

/-- Settles O50. -/
theorem siteReplacesTheRecord : Obligations.SiteReplacesTheRecord := by
  unfold Obligations.SiteReplacesTheRecord
  intro s tag lanes zones heads period failLimit ratioFloor maxHigh maxLow h hlanes hmultipliers siteMaximum legal record
    command
  obtain ⟨fields, hfields⟩ : ∃ fields, fields =
    (payloadOf [4, lanes, zones, heads, period, failLimit, ratioFloor, maxHigh, maxLow]).drop 1 := ⟨_, rfl⟩
  have completes {t : State} {r : ReplyResult} {data : ReplyData} (htake : takeSite fields s = (t, r, data)) :
      exec command s = .next (t.answer tag 4 r data) := by
    refine h.exec_completes rfl (?_ : takeCommand (.site _) s = _)
    rw [hfields] at htake
    simp only [takeCommand, htake]
  have hword (k : Word) : zones.toNat = k.toNat ↔ zones = k := BitVec.toNat_inj
  have hparse (r : SiteRecord) : parseSite fields = some r ↔ legal ∧ r = record := by
    have hzones : (arg fields 1 = 1 ∨ arg fields 1 = 2 ∨ arg fields 1 = 4 ∨ arg fields 1 = 8) ↔
        (zones = 1 ∨ zones = 2 ∨ zones = 4 ∨ zones = 8) := by
      simp only [← hword, hfields]
      rfl
    rw [parseSite_eq_some, hzones, hfields]
    constructor
    · rintro ⟨⟨h1, h2⟩, h3, h4, ⟨h5, h6⟩, ⟨h7, h8⟩, ⟨h9, h10⟩, ⟨h11, h12⟩, ⟨h13, h14⟩, hr⟩
      exact ⟨⟨h1, h2, h3, h4, h5, h6, h7, h8, h9, h10, h11, h12, h13, h14⟩, hr⟩
    · rintro ⟨⟨h1, h2, h3, h4, h5, h6, h7, h8, h9, h10, h11, h12, h13, h14⟩, hr⟩
      exact ⟨⟨h1, h2⟩, h3, h4, ⟨h5, h6⟩, ⟨h7, h8⟩, ⟨h9, h10⟩, ⟨h11, h12⟩, ⟨h13, h14⟩, hr⟩
  refine ⟨fun hservice => completes (if_pos hservice), fun hsetup hillegal => completes ?_, fun hsetup hlegal => ?_⟩
  · have hnone : parseSite fields = none :=
      Option.eq_none_iff_forall_ne_some.mpr fun r hr => hillegal ((hparse r).mp hr).1
    unfold takeSite
    rw [if_neg (by simp [hsetup]), hnone]
  · obtain ⟨hframe, hlane⟩ := forEach_setLaneScaled Lane.unscaled ((List.range laneCount).filter (lanes.toNat ≤ ·))
      (List.nodup_range.filter _) { s with siteRecord := record }
      (fun l hl => hlanes ▸ List.mem_range.mp (List.mem_filter.mp hl).1)
      (fun l hl => hmultipliers ▸ List.mem_range.mp (List.mem_filter.mp hl).1)
    refine ⟨_, completes ?_, hframe, fun l hl => ⟨fun hbelow => ?_, fun hbeyond => ?_⟩⟩
    · unfold takeSite
      rw [if_neg (by simp [hsetup]), (hparse record).mpr ⟨hlegal, rfl⟩]
      rfl
    · exact (hlane l).2 (by simp [hbelow])
    · obtain ⟨h1, h2⟩ := (hlane l).1 (by simpa [hbeyond] using hl)
      exact ⟨h1, h2.trans multiplierOf_zero⟩

end Sys2Proof.Machine

/-! PROOFS. COMMAND frames, ACTIVATE and DISCARD. -/

namespace Sys2Proof.Machine

/-! ### A COMMAND frame on a LOCKED link -/

theorem exec_commandFrame {s : State} (hreset : s.inReset = false) (hlocked : s.link = .locked) (hold : Bool) (tag : Tag)
    (payload : List Word) :
    exec (.commandFrame hold tag payload) s = .next ((s.withTakenFrame hold).submit tag payload) := by
  rw [exec_frameRow hreset (.inr (.inr (.inl ⟨hold, tag, payload, rfl, rfl⟩))), State.goodFrame_of_locked hlocked]
  exact congrArg (fun t : State => (Host.Outcome.next (t.submit tag payload) : Host.Outcome State Fault Refusal)) (s.countTaken_eq hold)

/-- An activation that waits is what no command but ACTIVATE leaves (R157). -/
theorem takeCommand_eq_none {c : Command} {s t : State} (h : takeCommand c s = (t, none)) :
    c = .activate ∧ t.waiting.isSome = true := by
  cases c with
  | activate =>
    refine ⟨rfl, ?_⟩
    simp only [takeCommand, takeActivate] at h
    split at h
    · cases h
    · split at h
      · cases h
      · cases h
        rfl
  | _ => simp [takeCommand] at h

theorem decodeCommand_eq_activate {p : List Word} (h : decodeCommand p = .activate) : p.getD 0 0 = 3 := by
  unfold decodeCommand at h
  split at h
  case h_3 hkind => exact BitVec.eq_of_toNat_eq hkind
  all_goals cases h

theorem undoDefault_eq (z : Option ZoneEntry) : undoDefault z = if z.any (·.fromDefault) then none else z := by
  cases z <;> rfl

/-- A management row out of reset is its command's arrival at the queue. -/
theorem State.arrive_of_running {s : State} (h : s.inReset = false) (tag : Tag) (ws : List Word) :
    s.arrive tag ws = s.submit tag (payloadOf ws) := by
  simp [State.arrive, h]

/-- Settles O10. -/
theorem commandFrameIsKeptOrRefused : Obligations.CommandFrameIsKeptOrRefused := by
  unfold Obligations.CommandFrameIsKeptOrRefused
  intro s hold tag payload hreset hlocked t frame
  have hframe (p : List Word) := exec_commandFrame hreset hlocked hold tag p
  have row {c : Instr} {ws : List Word} (hrow : exec c t = .next (t.arrive tag ws)) : exec (frame ws) s = exec c t := by
    rw [hrow, State.arrive_of_running (s := t) hreset]
    exact hframe (payloadOf ws)
  refine ⟨fun h => ⟨?_, fun kind arguments hkind => ?_, ?_⟩, fun hholds hplace => ?_, fun hfull => ⟨fun hnone => ?_,
    fun r hr => ?_⟩, row rfl, row rfl, row rfl, fun _ _ _ _ _ _ _ _ => row rfl,
    fun _ _ => ⟨row rfl, row rfl, row rfl, row rfl⟩, fun _ _ _ _ _ _ _ => row rfl,
    fun _ _ => ⟨row rfl, row rfl, row rfl, row rfl, row rfl, row rfl, row rfl, row rfl, row rfl, row rfl, row rfl, row rfl⟩,
    fun _ _ _ => ⟨row rfl, row rfl, row rfl, row rfl, row rfl, row rfl, row rfl⟩, fun _ _ _ => row rfl⟩
  · have ht : t.Ready := h
    have hzones : s.activeSet.zonePlan.map undoDefault = s.activeSet.zonePlan.map fun (z : Option ZoneEntry) =>
        if z.any (fun (e : ZoneEntry) => e.fromDefault) then none else z :=
      List.map_congr_left fun z _ => undoDefault_eq z
    rw [← hzones]
    exact (row (c := .discard tag) rfl).trans (ht.exec_completes (ws := []) rfl rfl)
  · have ht : t.Ready := h
    exact (row rfl).trans (unknownCommandIsAnsweredUnknown t tag kind arguments ht hkind)
  · have ht : t.Ready := h
    have hdesk (u : State) (hu : (takeCommand (decodeCommand payload) t).1 = u) :
        u.commands = [] ∧ u.replies = s.replies ∧ u.refusal = s.refusal ∧ u.reportHold = hold ∧
          u.linkStatistics = t.linkStatistics := by
      subst hu
      exact ⟨(takeCommand_commands _ t).trans h.2.2.2.1, takeCommand_replies _ t, takeCommand_refusal _ t,
        takeCommand_reportHold _ t, takeCommand_linkStatistics _ t⟩
    rw [hframe]
    cases htake : takeCommand (decodeCommand payload) t with
    | mk u answered =>
      obtain ⟨hcommands, hreplies, hrefusal, hhold, hstatistics⟩ := hdesk u (by rw [htake])
      cases answered with
      | some answered =>
        refine ⟨_, congrArg _ (ht.submit_completes tag htake), hhold, hstatistics, hrefusal,
          .inl ⟨hcommands, answered.1, answered.2, ?_⟩⟩
        simp [State.answer, hreplies]
      | none =>
        obtain ⟨hactivate, hwaiting⟩ := takeCommand_eq_none htake
        exact ⟨_, congrArg _ (ht.submit_waits tag htake), hhold, hstatistics, hrefusal,
          .inr ⟨rfl, decodeCommand_eq_activate hactivate, hwaiting, hreplies⟩⟩
  · rw [hframe]
    have hplaces : t.placesHeld < commandPlaces := hplace
    have hheld : State.holdsCommands { t with commands := t.commands ++ [⟨tag, payload⟩] } = true := by
      have hholds' : t.waiting.isSome = true ∨ t.evaluation.isSome = true := hholds
      rcases hholds' with h | h <;> simp [State.holdsCommands, State.evaluating, State.activationPending, h]
    unfold State.submit
    rw [if_pos hplaces]
    exact congrArg _ (State.takeCommands_of_holds hheld _)
  · rw [hframe]
    have hplaces : ¬ t.placesHeld < commandPlaces := Nat.not_lt.mpr hfull
    have ht : t.refusal = none := hnone
    unfold State.submit State.refuseCommand
    rw [if_neg hplaces, ht]
    rfl
  · rw [hframe]
    have hplaces : ¬ t.placesHeld < commandPlaces := Nat.not_lt.mpr hfull
    have ht : t.refusal = some r := hr
    unfold State.submit State.refuseCommand
    rw [if_neg hplaces, ht]
    simp only [Refused.add, saturatingSucc_eq_min, tagBit]
    rfl

/-! ### The seventeen checks -/

section
variable (r : SiteRecord) (t : TableSet) (i : Nat)

theorem Scope.within_eq_false_iff (scope : Scope) : (!scope.within r) = true ↔ scope.Beyond r := by
  cases scope <;> simp [Scope.within, Scope.Beyond]

theorem TableSet.hasPoint_iff (kind : PointKind) (scope : Scope) :
    t.hasPoint i kind scope = true ↔ t.PointIs i kind scope := by
  unfold TableSet.hasPoint TableSet.PointIs
  cases t.point i <;> simp

theorem TableSet.rowHas_iff (p : RowEntry → Bool) : t.rowHas i p = true ↔ ∃ d, t.row i = some d ∧ p d = true := by
  unfold TableSet.rowHas
  cases t.row i <;> simp

theorem TableSet.onRatio_iff (d : RowEntry) : t.onRatio d = true ↔ t.RatioSourced d := by
  unfold TableSet.onRatio TableSet.RatioSourced
  cases t.point d.source <;> simp

theorem RowEntry.curveIndex_eq_some (d : RowEntry) (c : Nat) :
    d.curveIndex = some c ↔ d.action = .ceiling ∧ d.ceiling = some (.curve c) := by
  unfold RowEntry.curveIndex
  split
  · rename_i haction hceiling
    simp [haction, hceiling]
  · rename_i h
    simp only [reduceCtorEq, false_iff, not_and]
    exact fun haction hceiling => h c haction hceiling

theorem failsPointHead_iff : failsPointHead r t i = true ↔ ∃ e position input fold gain offset,
    t.point i = some e ∧ e.source = .head position input fold gain offset ∧ r.heads ≤ position := by
  unfold failsPointHead
  split
  · rename_i position _ _ _ _ h
    simp [h]
  · rename_i h
    simp only [Bool.false_eq_true, false_iff, not_exists, not_and]
    rintro ⟨kind, scope, source⟩ position input fold gain offset he rfl
    exact absurd he (h _ _ _ _ _ _ _)

theorem failsPointScope_iff : failsPointScope r t i = true ↔ ∃ e, t.point i = some e ∧ e.scope.Beyond r := by
  unfold failsPointScope
  cases t.point i <;> simp [← Scope.within_eq_false_iff]

theorem failsRatioSource_iff : failsRatioSource t i = true ↔ ∃ e f g, t.point i = some e ∧ e.source = .ratio f g ∧
    ¬ (t.PointIs f .fwd e.scope ∧ t.PointIs g .ref e.scope) := by
  unfold failsRatioSource
  split
  · rename_i f g scope h
    simp [h, ← TableSet.hasPoint_iff, imp_iff_not_or]
  · rename_i h
    simp only [Bool.false_eq_true, false_iff, not_exists, not_and]
    rintro ⟨kind, scope, source⟩ f g he rfl
    exact absurd he (h _ _ _ _)

theorem failsHeadScope_iff : failsHeadScope r t i = true ↔
    i < r.heads ∧ ∃ e z, t.head i = some e ∧ e.arcScope = .zone z ∧ r.zones ≤ z := by
  unfold failsHeadScope
  split
  · rename_i z h
    simp [h]
  · rename_i h
    simp only [Bool.false_eq_true, false_iff, not_exists, not_and]
    rintro - ⟨id, mode, quad, scope⟩ z he rfl
    exact absurd he (h _ _ _ _)

theorem curveAscends_eq_false_iff (curve : Curve) : curveAscends curve = false ↔
    ∃ k p q, curve[k]? = some p ∧ curve[k + 1]? = some q ∧ q.x ≤ p.x := by
  induction curve with
  | nil => simp [curveAscends]
  | cons p rest ih =>
    cases rest with
    | nil => simp [curveAscends]
    | cons q rest =>
      simp only [curveAscends, Bool.and_eq_false_iff, ih, decide_eq_false_iff_not, Nat.not_lt]
      constructor
      · rintro (h | ⟨k, a, b, h⟩)
        · exact ⟨0, p, q, rfl, rfl, h⟩
        · exact ⟨k + 1, a, b, h⟩
      · rintro ⟨k, a, b, ha, hb, h⟩
        cases k with
        | zero =>
          cases ha
          cases hb
          exact .inl h
        | succ k => exact .inr ⟨k, a, b, ha, hb, h⟩

theorem failsCurveOrder_iff : failsCurveOrder t i = true ↔
    ∃ curve k p q, t.curve i = some curve ∧ curve[k]? = some p ∧ curve[k + 1]? = some q ∧ q.x ≤ p.x := by
  unfold failsCurveOrder
  cases t.curve i <;> simp [curveAscends_eq_false_iff]

theorem failsRowSource_iff : failsRowSource t i = true ↔ ∃ d, t.row i = some d ∧ t.point d.source = none := by
  simp [failsRowSource, TableSet.rowHas_iff]

theorem failsRowScope_iff : failsRowScope r t i = true ↔ ∃ d, t.row i = some d ∧ d.scope.Beyond r := by
  simp only [failsRowScope, TableSet.rowHas_iff, Scope.within_eq_false_iff]

theorem failsRowCurve_iff : failsRowCurve t i = true ↔
    ∃ d c, t.row i = some d ∧ d.action = .ceiling ∧ d.ceiling = some (.curve c) ∧ t.curve c = none := by
  unfold failsRowCurve
  rw [TableSet.rowHas_iff]
  refine exists_congr fun d => ?_
  have hindex := d.curveIndex_eq_some
  cases hc : d.curveIndex with
  | none =>
    rw [hc] at hindex
    grind
  | some c =>
    rw [hc] at hindex
    rw [Option.isNone_iff_eq_none]
    grind

theorem failsMuteLatch_iff : failsMuteLatch t i = true ↔
    ∃ d, t.row i = some d ∧ d.action = .mute ∧ t.RatioSourced d ∧ d.latch = .self := by
  simp [failsMuteLatch, TableSet.rowHas_iff, TableSet.onRatio_iff, and_assoc]

theorem failsArcLatch_iff : failsArcLatch t i = true ↔ ∃ d, t.row i = some d ∧ d.action = .arc ∧ d.latch = .latch := by
  simp [failsArcLatch, TableSet.rowHas_iff]

theorem failsCurveFloor_iff : failsCurveFloor r t i = true ↔
    ∃ d c curve p, t.row i = some d ∧ d.action = .ceiling ∧ d.ceiling = some (.curve c) ∧ t.RatioSourced d ∧
      t.curve c = some curve ∧ p ∈ curve ∧ p.y < r.ratioFloor := by
  unfold failsCurveFloor
  rw [TableSet.rowHas_iff]
  refine exists_congr fun d => ?_
  rw [Bool.and_eq_true, TableSet.onRatio_iff]
  have hindex := d.curveIndex_eq_some
  cases hc : d.curveIndex with
  | none =>
    rw [hc] at hindex
    simp only [Option.bind_none]
    grind
  | some c =>
    rw [hc] at hindex
    simp only [Option.bind_some]
    cases hcurve : t.curve c with
    | none => grind
    | some curve =>
      simp only [List.any_eq_true, decide_eq_true_eq]
      grind

theorem failsZoneLane_iff : failsZoneLane r t i = true ↔ i < r.lanes ∧ ∃ z, t.zoneOf i = some z ∧ r.zones ≤ z := by
  unfold failsZoneLane
  cases t.zoneOf i <;> simp

theorem failsZoneEmpty_iff : failsZoneEmpty r t i = true ↔ i < r.zones ∧ ∀ l, l < r.lanes → t.zoneOf l ≠ some i := by
  simp [failsZoneEmpty, TableSet.members, TableSet.isMember]

theorem failsLanePlan_iff : failsLanePlan r t i = true ↔ i < r.lanes ∧ t.plan i = none := by
  simp [failsLanePlan]

theorem failsLaneRatio_iff : failsLaneRatio r t i = true ↔
    i < r.lanes ∧ ∃ p k, t.plan i = some p ∧ p.ratioPoint = some k ∧ ¬ t.PointIs k .ratio (.lane i) := by
  unfold failsLaneRatio
  cases t.plan i with
  | none => simp
  | some p => cases hk : p.ratioPoint <;> simp [hk, ← TableSet.hasPoint_iff]

theorem failsBudgetCurve_iff : failsBudgetCurve t i = true ↔
    i = t.parameters.budgetCurve ∧ t.parameters.budgetPoint ≠ none ∧ t.curve i = none := by
  simp [failsBudgetCurve, Option.isSome_iff_ne_none]
  tauto

end

/-! ### The first failure -/

/-- The number of items that a check looks at. -/
def checkCount : Nat → Nat
  | 1 => pointCount
  | 2 => pointCount
  | 3 => pointCount
  | 4 => headCount
  | 5 => curveCount
  | 6 => rowCount
  | 7 => rowCount
  | 8 => rowCount
  | 9 => rowCount
  | 10 => rowCount
  | 11 => rowCount
  | 12 => laneCount
  | 13 => zoneCount
  | 14 => laneCount
  | 15 => laneCount
  | 16 => 1
  | 17 => curveCount
  | _ => 0

/-- A check of the validation by its code. -/
def checkFails (r : SiteRecord) (t : TableSet) : Nat → Nat → Bool
  | 1 => failsPointHead r t
  | 2 => failsPointScope r t
  | 3 => failsRatioSource t
  | 4 => failsHeadScope r t
  | 5 => failsCurveOrder t
  | 6 => failsRowSource t
  | 7 => failsRowScope r t
  | 8 => failsRowCurve t
  | 9 => failsMuteLatch t
  | 10 => failsArcLatch t
  | 11 => failsCurveFloor r t
  | 12 => failsZoneLane r t
  | 13 => failsZoneEmpty r t
  | 14 => failsLanePlan r t
  | 15 => failsLaneRatio r t
  | 16 => failsProbeFloor r t
  | 17 => failsBudgetCurve t
  | _ => fun _ => false

/-- The validation takes the checks in the order of their codes. -/
theorem validate_eq_findSome (r : SiteRecord) (t : TableSet) :
    validate r t = (List.range' 1 17).findSome? fun code => firstFailure code (checkCount code) (checkFails r t code) :=
  rfl

/-- A check fails at an item as the table of R156 says. -/
theorem failsCheck_iff (r : SiteRecord) (t : TableSet) (code item : Nat) :
    FailsCheck r t code item ↔ item < checkCount code ∧ checkFails r t code item = true := by
  match code with
  | 0 => simp [FailsCheck, checkCount]
  | 1 => exact and_congr Iff.rfl (failsPointHead_iff r t item).symm
  | 2 => exact and_congr Iff.rfl (failsPointScope_iff r t item).symm
  | 3 => exact and_congr Iff.rfl (failsRatioSource_iff t item).symm
  | 4 => exact and_congr Iff.rfl (failsHeadScope_iff r t item).symm
  | 5 => exact and_congr Iff.rfl (failsCurveOrder_iff t item).symm
  | 6 => exact and_congr Iff.rfl (failsRowSource_iff t item).symm
  | 7 => exact and_congr Iff.rfl (failsRowScope_iff r t item).symm
  | 8 => exact and_congr Iff.rfl (failsRowCurve_iff t item).symm
  | 9 => exact and_congr Iff.rfl (failsMuteLatch_iff t item).symm
  | 10 => exact and_congr Iff.rfl (failsArcLatch_iff t item).symm
  | 11 => exact and_congr Iff.rfl (failsCurveFloor_iff r t item).symm
  | 12 => exact and_congr Iff.rfl (failsZoneLane_iff r t item).symm
  | 13 => exact and_congr Iff.rfl (failsZoneEmpty_iff r t item).symm
  | 14 => exact and_congr Iff.rfl (failsLanePlan_iff r t item).symm
  | 15 => exact and_congr Iff.rfl (failsLaneRatio_iff r t item).symm
  | 16 => exact and_congr (by simp [checkCount]) (by simp [checkFails, failsProbeFloor])
  | 17 => exact and_congr Iff.rfl (failsBudgetCurve_iff t item).symm
  | code + 18 => simp [FailsCheck, checkCount]

theorem failsCheck_code {r : SiteRecord} {t : TableSet} {code item : Nat} (h : FailsCheck r t code item) :
    code ∈ List.range' 1 17 := by
  rw [List.mem_range'_1]
  match code with
  | 0 => exact h.elim
  | code + 18 => exact h.elim
  | 1 | 2 | 3 | 4 | 5 | 6 | 7 | 8 | 9 | 10 | 11 | 12 | 13 | 14 | 15 | 16 | 17 => omega

theorem firstFailure_eq_none {code count : Nat} {fails : Nat → Bool} :
    firstFailure code count fails = none ↔ ∀ i, i < count → fails i = false := by
  simp [firstFailure]

theorem firstFailure_eq_some {code count c i : Nat} {fails : Nat → Bool} (h : firstFailure code count fails = some (c, i)) :
    c = code ∧ i < count ∧ fails i = true ∧ ∀ j, j < i → fails j = false := by
  simp only [firstFailure, Option.map_eq_some_iff, Prod.mk.injEq] at h
  obtain ⟨j, hfind, rfl, rfl⟩ := h
  rw [List.find?_range_eq_some] at hfind
  obtain ⟨hfails, hmem, hleast⟩ := hfind
  exact ⟨rfl, List.mem_range.mp hmem, hfails, fun k hk => by simpa using hleast k hk⟩

theorem validate_eq_none_iff (r : SiteRecord) (t : TableSet) :
    validate r t = none ↔ ∀ code item, ¬ FailsCheck r t code item := by
  rw [validate_eq_findSome, List.findSome?_eq_none_iff]
  simp only [firstFailure_eq_none]
  constructor
  · intro h code item hfails
    have hcode := h code (failsCheck_code hfails)
    rw [failsCheck_iff] at hfails
    exact absurd hfails.2 (by simp [hcode item hfails.1])
  · intro h code _ item hitem
    have := h code item
    rw [failsCheck_iff] at this
    simpa [hitem] using this

/-- The failure a validation finds fails, and every other comes later. -/
theorem validate_eq_some {r : SiteRecord} {t : TableSet} {code item : Nat} (h : validate r t = some (code, item)) :
    FailsCheck r t code item ∧ ∀ c i, FailsCheck r t c i → code < c ∨ (code = c ∧ item ≤ i) := by
  rw [validate_eq_findSome, List.findSome?_eq_some_iff] at h
  obtain ⟨before, found, after, hcodes, hfound, hbefore⟩ := h
  obtain ⟨rfl, hitem, hfails, hleast⟩ := firstFailure_eq_some hfound
  refine ⟨(failsCheck_iff r t code item).mpr ⟨hitem, hfails⟩, fun c i hfails' => ?_⟩
  have hmem := failsCheck_code hfails'
  obtain ⟨hi, hfails'⟩ := (failsCheck_iff r t c i).mp hfails'
  have hsorted : (before ++ code :: after).Pairwise (· < ·) := hcodes ▸ List.pairwise_lt_range'
  rw [hcodes, List.mem_append, List.mem_cons] at hmem
  rcases hmem with hmem | rfl | hmem
  · have := firstFailure_eq_none.mp (hbefore c hmem) i hi
    simp [hfails'] at this
  · refine .inr ⟨rfl, Nat.not_lt.mp fun hlt => ?_⟩
    simp [hleast i hlt] at hfails'
  · exact .inl (List.rel_of_pairwise_cons (List.pairwise_append.mp hsorted).2.1 hmem)

theorem validate_eq_some_iff (r : SiteRecord) (t : TableSet) (code item : Nat) : validate r t = some (code, item) ↔
    FailsCheck r t code item ∧ ∀ c i, FailsCheck r t c i → code < c ∨ (code = c ∧ item ≤ i) := by
  refine ⟨validate_eq_some, fun ⟨hfails, hleast⟩ => ?_⟩
  cases hv : validate r t with
  | none => exact absurd hfails ((validate_eq_none_iff r t).mp hv code item)
  | some found =>
    obtain ⟨hfails', hleast'⟩ := validate_eq_some hv
    have h1 := hleast _ _ hfails'
    have h2 := hleast' _ _ hfails
    exact congrArg some (Prod.ext (by omega) (by omega))

/-! ### ACTIVATE -/

theorem resolveZones_zoneEntry (r : SiteRecord) (t : TableSet) {l : Nat} (hl : l < t.zonePlan.length) :
    (resolveZones r t).zoneEntry l = match t.zoneEntry l with
      | some z => some z
      | none => if l < r.lanes then some { zone := l * r.zones / r.lanes, fromDefault := true } else none := by
  simp only [TableSet.zoneEntry, resolveZones, List.getD_eq_getElem?_getD, List.getElem?_map, List.getElem?_zipIdx,
    List.getElem?_eq_getElem hl, Option.map_some, Option.getD_some, Nat.zero_add, defaultZone] <;> rfl

/-- Settles O49. -/
theorem activateIsRefusedFailsOrWaits : Obligations.ActivateIsRefusedFailsOrWaits := by
  unfold Obligations.ActivateIsRefusedFailsOrWaits
  refine ⟨fun r t => ⟨validate_eq_none_iff r t, validate_eq_some_iff r t, fun l hl => resolveZones_zoneEntry r t hl, rfl⟩,
    fun s => ⟨List.pairwise_lt_range.filter _, List.pairwise_lt_range.filter _, fun r => ?_, fun l => ?_⟩,
    fun s tag h => ⟨fun hrefused => ?_, fun hlatched hlocked => ⟨fun code item hfails => ?_, fun hvalid => ?_⟩⟩⟩
  · unfold State.latchedRows
    rw [List.mem_filter, List.mem_range]
    refine and_congr Iff.rfl ?_
    cases s.activeSet.row r <;> cases s.rowRuntime r <;> simp
  · simp [State.lockedLanes]
  · exact h.exec_completes (ws := []) rfl (if_pos hrefused)
  · refine h.exec_completes (ws := []) rfl (?_ : takeActivate s = _)
    unfold takeActivate
    rw [if_neg (by simp [hlatched, hlocked])]
    dsimp only
    rw [hfails]
  · have htake : takeActivate s =
        ({ s with waiting := some { tables := resolveZones s.siteRecord s.pendingSet, deferrals := 0 } }, none) := by
      unfold takeActivate
      rw [if_neg (by simp [hlatched, hlocked])]
      dsimp only
      rw [hvalid]
    exact congrArg Host.Outcome.next
      (h.arrive_waits (ws := [3]) tag htake)

end Sys2Proof.Machine

/-! PROOFS. The codings of table entries: a parser answers an entry exactly when the words spell it. -/

namespace Sys2Proof.Machine

/-! ### Words and numbers -/

theorem toNat_word {n : Nat} (h : n ≤ 65535) : (word n).toNat = n := by
  simp only [word, BitVec.toNat_ofNat]
  omega

theorem arg_eq_iff {f : List Word} {i n : Nat} (h : n ≤ 65535) : arg f i = n ↔ f.getD i 0 = word n := by
  rw [← BitVec.toNat_inj, toNat_word h]
  rfl

theorem arg_le (f : List Word) (i : Nat) : arg f i ≤ 65535 := Nat.le_of_lt_succ (f.getD i 0).isLt

theorem arg_eq_allOnes {f : List Word} {i : Nat} : arg f i = allOnes ↔ f.getD i 0 = 0xFFFF#16 := arg_eq_iff (le_refl _)

theorem word_inj {m n : Nat} (hm : m ≤ 65535) (hn : n ≤ 65535) : word m = word n ↔ m = n := by
  rw [← BitVec.toNat_inj, toNat_word hm, toNat_word hn]

theorem word_arg (f : List Word) (i : Nat) : f.getD i 0 = word (arg f i) := (arg_eq_iff (arg_le f i)).mp rfl

theorem inRange_arg_eq_some {f : List Word} {i low high v : Nat} (h : high ≤ 65535) :
    inRange low high (arg f i) = some v ↔ (low ≤ v ∧ v ≤ high) ∧ f.getD i 0 = word v := by
  rw [inRange_eq_some]
  constructor
  · rintro ⟨h1, h2, rfl⟩
    exact ⟨⟨h1, h2⟩, word_arg f i⟩
  · rintro ⟨⟨h1, h2⟩, h3⟩
    have := (arg_eq_iff (by omega)).mpr h3
    omega

theorem withDefault_arg_eq_some {f : List Word} {i d low high v : Nat} (hd : low ≤ d ∧ d ≤ high) (h : high ≤ 65535) :
    withDefault d low high (arg f i) = some v ↔
      (low ≤ v ∧ v ≤ high) ∧ (f.getD i 0 ≠ 0xFFFF#16 → f.getD i 0 = word v) ∧
        (f.getD i 0 = 0xFFFF#16 → word v = word d) := by
  unfold withDefault
  rw [ite_eq_iff]
  simp only [arg_eq_allOnes, inRange_arg_eq_some h, Option.some.injEq]
  by_cases hw : f.getD i 0 = 0xFFFF#16
  · simp only [hw, true_and, not_true, false_and, or_false, ne_eq, IsEmpty.forall_iff, forall_const]
    constructor
    · rintro rfl
      exact ⟨hd, rfl⟩
    · rintro ⟨hv, hword⟩
      exact ((word_inj (by omega) (by omega)).mp hword).symm
  · simp only [hw, false_and, not_false_eq_true, true_and, false_or, ne_eq, forall_const, IsEmpty.forall_iff, and_true]

theorem coded_eq_some {α : Type} [DecidableEq α] {values : List α} (hnodup : values.Nodup) {v : α} (hv : v ∈ values)
    {code : Nat} : coded values code = some v ↔ code = codeIn values v := by
  unfold coded codeIn
  constructor
  · intro h
    obtain ⟨hlt, rfl⟩ := List.getElem?_eq_some_iff.mp h
    exact (hnodup.idxOf_getElem code hlt).symm
  · rintro rfl
    exact List.getElem?_idxOf hv

theorem codeIn_le {α : Type} [DecidableEq α] (values : List α) (v : α) : codeIn values v ≤ values.length := List.idxOf_le_length

theorem coded_arg_eq_some {α : Type} [DecidableEq α] {values : List α} (hnodup : values.Nodup)
    (hlength : values.length ≤ 65535) {v : α} (hv : v ∈ values) {f : List Word} {i : Nat} :
    coded values (arg f i) = some v ↔ f.getD i 0 = word (codeIn values v) := by
  rw [coded_eq_some hnodup hv, arg_eq_iff ((codeIn_le values v).trans hlength)]

theorem pointKinds_arg {f : List Word} {i : Nat} {v : PointKind} :
    coded pointKinds (arg f i) = some v ↔ f.getD i 0 = word (codeIn pointKinds v) :=
  coded_arg_eq_some (by decide) (by decide) (by cases v <;> decide)

theorem folds_arg {f : List Word} {i : Nat} {v : Fold} :
    coded folds (arg f i) = some v ↔ f.getD i 0 = word (codeIn folds v) :=
  coded_arg_eq_some (by decide) (by decide) (by cases v <;> decide)

theorem headModes_arg {f : List Word} {i : Nat} {v : HeadMode} :
    coded headModes (arg f i) = some v ↔ f.getD i 0 = word (codeIn headModes v) :=
  coded_arg_eq_some (by decide) (by decide) (by cases v <;> decide)

theorem senses_arg {f : List Word} {i : Nat} {v : Sense} :
    coded senses (arg f i) = some v ↔ f.getD i 0 = word (codeIn senses v) :=
  coded_arg_eq_some (by decide) (by decide) (by cases v <;> decide)

theorem actions_arg {f : List Word} {i : Nat} {v : Action} :
    coded actions (arg f i) = some v ↔ f.getD i 0 = word (codeIn actions v) :=
  coded_arg_eq_some (by decide) (by decide) (by cases v <;> decide)

theorem latches_arg {f : List Word} {i : Nat} {v : Latch} :
    coded latches (arg f i) = some v ↔ f.getD i 0 = word (codeIn latches v) :=
  coded_arg_eq_some (by decide) (by decide) (by cases v <;> decide)

theorem reports_arg {f : List Word} {i : Nat} {v : Report} :
    coded reports (arg f i) = some v ↔ f.getD i 0 = word (codeIn reports v) :=
  coded_arg_eq_some (by decide) (by decide) (by cases v <;> decide)

theorem yesNo_arg {f : List Word} {i : Nat} {v : Bool} :
    coded yesNo (arg f i) = some v ↔ f.getD i 0 = word (codeIn yesNo v) :=
  coded_arg_eq_some (by decide) (by decide) (by cases v <;> decide)

theorem probePolicies_arg {f : List Word} {i : Nat} {v : ProbePolicy} :
    coded probePolicies (arg f i) = some v ↔ f.getD i 0 = word (codeIn probePolicies v) :=
  coded_arg_eq_some (by decide) (by decide) (by cases v <;> decide)

theorem signedWord_eq_iff {w : Word} {v : Int} :
    signedWord w.toNat = v ↔ (-32768 ≤ v ∧ v ≤ 32767) ∧ w = BitVec.ofInt 16 v := by
  have htoInt : signedWord w.toNat = w.toInt := by
    rw [BitVec.toInt_eq_toNat_cond]
    unfold signedWord
    have := w.isLt
    split <;> split <;> omega
  rw [htoInt]
  constructor
  · rintro rfl
    have hlow := BitVec.le_toInt w
    have hhigh := BitVec.toInt_lt (x := w)
    exact ⟨by omega, (BitVec.ofInt_toInt).symm⟩
  · rintro ⟨hv, rfl⟩
    rw [BitVec.toInt_ofInt]
    exact Int.bmod_eq_of_le (by omega) (by omega)

/-! ### Words place by place -/

/-- The words of a list, from place `k` on, each satisfy `P` with their place. -/
def Places (P : Nat → Word → Prop) (k : Nat) (ws : List Word) : Prop := ∀ i, i < ws.length → P (k + i) (ws.getD i 0)

section
variable {P : Nat → Word → Prop} {k : Nat}

@[simp] theorem places_nil : Places P k [] ↔ True := by simp [Places]

@[simp] theorem places_cons {w : Word} {ws : List Word} : Places P k (w :: ws) ↔ P k w ∧ Places P (k + 1) ws := by
  constructor
  · intro h
    exact ⟨h 0 (by simp), fun i hi => by simpa [Nat.add_right_comm, Nat.add_assoc] using h (i + 1) (by simpa using hi)⟩
  · rintro ⟨h0, h⟩ i hi
    cases i with
    | zero => exact h0
    | succ i => simpa [Nat.add_right_comm, Nat.add_assoc] using h i (by simpa using hi)

theorem places_append {xs ys : List Word} : Places P k (xs ++ ys) ↔ Places P k xs ∧ Places P (k + xs.length) ys := by
  induction xs generalizing k with
  | nil => simp
  | cons x xs ih => simp [ih, and_assoc, Nat.add_assoc, Nat.add_comm 1]

theorem spells_iff_places {f ws : List Word} : Spells f ws ↔ Places (fun i w => f.getD i 0 = w) 0 ws := by
  simp [Spells, Places]

end

theorem parseScope_eq_some {kind index : Nat} {v : Scope} : parseScope kind index = some v ↔
    match v with
    | .lane l => l < 8 ∧ kind = 0 ∧ index = l
    | .zone z => z < 8 ∧ kind = 1 ∧ index = z
    | .site => kind = 2 ∧ index = 0 := by
  unfold parseScope
  cases v <;> split <;> simp [laneCount, zoneCount] <;> grind

theorem parseScope_arg {f : List Word} {i : Nat} {v : Scope} : parseScope (arg f i) (arg f (i + 1)) = some v ↔
    v.InRange ∧ Places (fun i w => f.getD i 0 = w) i v.words := by
  rw [parseScope_eq_some]
  cases v with
  | lane l =>
    simp only [Scope.InRange, Scope.words, places_cons, places_nil, and_true]
    exact and_congr_right fun h => and_congr (arg_eq_iff (by omega)) (arg_eq_iff (by omega))
  | zone z =>
    simp only [Scope.InRange, Scope.words, places_cons, places_nil, and_true]
    exact and_congr_right fun h => and_congr (arg_eq_iff (by omega)) (arg_eq_iff (by omega))
  | site =>
    simp only [Scope.InRange, Scope.words, places_cons, places_nil, and_true, true_and]
    exact and_congr (arg_eq_iff (by omega)) (arg_eq_iff (by omega))

theorem parseArcScope_eq_some {kind index : Nat} {v : ArcScope} : parseArcScope kind index = some v ↔
    match v with
    | .zone z => z < 8 ∧ kind = 1 ∧ index = z
    | .site => kind = 2 ∧ index = 0
    | .none => kind = 3 ∧ index = 0 := by
  unfold parseArcScope
  cases v <;> split <;> simp [zoneCount] <;> grind

theorem parseArcScope_arg {f : List Word} {i : Nat} {v : ArcScope} : parseArcScope (arg f i) (arg f (i + 1)) = some v ↔
    (∀ z, v = .zone z → z ≤ 7) ∧ Places (fun i w => f.getD i 0 = w) i v.words := by
  rw [parseArcScope_eq_some]
  cases v with
  | zone z =>
    simp only [ArcScope.words, places_cons, places_nil, and_true, ArcScope.zone.injEq, forall_eq']
    rw [Nat.lt_succ_iff (n := 7)]
    exact and_congr_right fun h => and_congr (arg_eq_iff (by omega)) (arg_eq_iff (by omega))
  | site =>
    simp only [ArcScope.words, places_cons, places_nil, and_true, reduceCtorEq, IsEmpty.forall_iff, forall_const, true_and]
    exact and_congr (arg_eq_iff (by omega)) (arg_eq_iff (by omega))
  | none =>
    simp only [ArcScope.words, places_cons, places_nil, and_true, reduceCtorEq, IsEmpty.forall_iff, forall_const, true_and]
    exact and_congr (arg_eq_iff (by omega)) (arg_eq_iff (by omega))

/-! ### The parsers -/

theorem parseZone_eq_some {f : List Word} {e : ZoneEntry} : parseZone f = some e ↔ e.InRange ∧ Spells f e.words := by
  obtain ⟨zone, fromDefault⟩ := e
  simp only [parseZone, Option.map_eq_some_iff, inRange_arg_eq_some (by decide : 7 ≤ 65535), ZoneEntry.mk.injEq,
    ZoneEntry.InRange, spells_iff_places, ZoneEntry.words, places_cons, places_nil]
  grind

theorem parsePoint_eq_some {f : List Word} {e : PointEntry} :
    parsePoint f = some e ↔ e.InRange ∧ Spells f e.words := by
  obtain ⟨kind, scope, source⟩ := e
  have hscope (v : Scope) := parseScope_arg (f := f) (i := 1) (v := v)
  have hgain (n : Nat) : arg f 6 = n ↔ n ≤ 65535 ∧ f.getD 6 0 = word n := by
    constructor
    · rintro rfl
      exact ⟨arg_le f 6, word_arg f 6⟩
    · exact fun h => (arg_eq_iff h.1).mpr h.2
  have hoffset (v : Int) : signedWord (arg f 7) = v ↔ (-32768 ≤ v ∧ v ≤ 32767) ∧ f.getD 7 0 = signedToWord v :=
    signedWord_eq_iff
  have hlength (sc : Scope) : sc.words.length = 2 := by cases sc <;> rfl
  simp only [parsePoint, Option.bind_eq_bind, Option.bind_eq_some_iff, Option.pure_def, pointKinds_arg, hscope,
    spells_iff_places, PointEntry.words, PointEntry.InRange, List.cons_append, List.nil_append, places_cons, places_append, hlength]
  cases source with
  | ratio a b =>
    simp only [places_cons, places_nil, and_true]
    constructor
    · rintro ⟨k, hk, sc, ⟨hr, hw⟩, h⟩
      split_ifs at h with hratio
      · simp only [Option.bind_eq_some_iff, inRange_arg_eq_some (by decide : 63 ≤ 65535), Option.some.injEq,
          PointEntry.mk.injEq, PointSource.ratio.injEq] at h
        obtain ⟨_, ⟨ha, haw⟩, _, ⟨hb, hbw⟩, rfl, rfl, rfl, rfl⟩ := h
        exact ⟨⟨hr, hratio, ha.2, hb.2⟩, hk, hw, haw, hbw⟩
      · simp [Option.bind_eq_some_iff] at h
    · rintro ⟨⟨hr, rfl, ha, hb⟩, hk, hw, haw, hbw⟩
      refine ⟨_, hk, _, ⟨hr, hw⟩, ?_⟩
      rw [if_pos rfl, (inRange_arg_eq_some (by decide)).mpr ⟨⟨Nat.zero_le _, ha⟩, haw⟩,
        (inRange_arg_eq_some (by decide)).mpr ⟨⟨Nat.zero_le _, hb⟩, hbw⟩]
      rfl
  | head p n fold gain offset =>
    simp only [places_cons, places_nil, and_true]
    constructor
    · rintro ⟨k, hk, sc, ⟨hr, hw⟩, h⟩
      split_ifs at h with hratio
      · simp [Option.bind_eq_some_iff] at h
      · simp only [Option.bind_eq_some_iff, inRange_arg_eq_some (by decide : 15 ≤ 65535),
          inRange_arg_eq_some (by decide : 3 ≤ 65535), folds_arg, Option.some.injEq, PointEntry.mk.injEq,
          PointSource.head.injEq, hgain, hoffset] at h
        obtain ⟨_, ⟨hp, hpw⟩, _, ⟨hn, hnw⟩, _, hf, rfl, rfl, rfl, rfl, rfl, ⟨hg, hgw⟩, ho, how⟩ := h
        exact ⟨⟨hr, hratio, hp.2, hn.2, hg, ho.1, ho.2⟩, hk, hw, hpw, hnw, hf, hgw, how⟩
    · rintro ⟨⟨hr, hratio, hp, hn, hg, ho1, ho2⟩, hk, hw, hpw, hnw, hf, hgw, how⟩
      refine ⟨_, hk, _, ⟨hr, hw⟩, ?_⟩
      rw [if_neg hratio, (inRange_arg_eq_some (by decide)).mpr ⟨⟨Nat.zero_le _, hp⟩, hpw⟩,
        (inRange_arg_eq_some (by decide)).mpr ⟨⟨Nat.zero_le _, hn⟩, hnw⟩, folds_arg.mpr hf,
        (hgain gain).mpr ⟨hg, hgw⟩, (hoffset offset).mpr ⟨⟨ho1, ho2⟩, how⟩]
      rfl

theorem places_congr {P Q : Nat → Word → Prop} {k : Nat} (h : ∀ i w, k ≤ i → (P i w ↔ Q i w)) (ws : List Word) :
    Places P k ws ↔ Places Q k ws :=
  forall_congr' fun i => imp_congr_right fun _ => h (k + i) _ (Nat.le_add_right k i)

theorem parseHead_eq_some {f : List Word} {e : HeadEntry} : parseHead f = some e ↔ e.InRange ∧ (f.getD 2 0).toNat ≤ 3 ∧
    ∀ i, i < e.words.length → (i = 2 → e.mode = .quad) → f.getD i 0 = e.words.getD i 0 := by
  obtain ⟨id, mode, quad, scope⟩ := e
  have hscope (v : ArcScope) := parseArcScope_arg (f := f) (i := 3) (v := v)
  have hplaces : (∀ i, i < (HeadEntry.mk id mode quad scope).words.length → (i = 2 → mode = .quad) →
      f.getD i 0 = (HeadEntry.mk id mode quad scope).words.getD i 0) ↔
      f.getD 0 0 = word (id.getD 16) ∧ f.getD 1 0 = word (codeIn headModes mode) ∧
        (mode = .quad → f.getD 2 0 = word quad) ∧ Places (fun i w => f.getD i 0 = w) 3 scope.words := by
    have hall : (∀ i, i < (HeadEntry.mk id mode quad scope).words.length → (i = 2 → mode = .quad) →
        f.getD i 0 = (HeadEntry.mk id mode quad scope).words.getD i 0) ↔
        Places (fun i w => (i = 2 → mode = .quad) → f.getD i 0 = w) 0 (HeadEntry.mk id mode quad scope).words := by
      simp [Places]
    have hcode : mode.code = codeIn headModes mode := by cases mode <;> rfl
    have hlater := places_congr (P := fun i w => (i = 2 → mode = .quad) → f.getD i 0 = w) (Q := fun i w => f.getD i 0 = w)
      (k := 3) (fun i w hi => ⟨fun h => h fun h2 => by omega, fun h _ => h⟩) scope.words
    rw [hall]
    simp only [HeadEntry.words, hcode, List.cons_append, List.nil_append, places_cons, hlater]
    simp
  have hid (v : Nat) (hv : v ≤ 16) : (if v = 16 then none else some v) = id ↔
      (∀ n, id = some n → n ≤ 15) ∧ v = id.getD 16 := by
    cases id <;> grind
  rw [hplaces]
  simp only [parseHead, Option.bind_eq_bind, Option.bind_eq_some_iff, Option.pure_def, headModes_arg, hscope,
    inRange_arg_eq_some (by decide : 16 ≤ 65535), inRange_eq_some, Option.some.injEq, HeadEntry.mk.injEq, HeadEntry.InRange]
  constructor
  · rintro ⟨v, ⟨⟨-, hv⟩, hvw⟩, m, hm, q, ⟨-, hq, rfl⟩, sc, ⟨hsr, hsw⟩, hi, rfl, rfl, rfl⟩
    obtain ⟨hid1, rfl⟩ := (hid v hv).mp hi
    have hword := word_arg f 2
    refine ⟨⟨hid1, ?_, fun hs => if_pos hs, hsr⟩, hq, hvw, hm, fun hmode => ?_, hsw⟩
    · split
      · exact Nat.zero_le 3
      · exact hq
    · rw [if_neg (by simp [hmode])]
      exact hword
  · rintro ⟨⟨hid1, hq, hs, hsr⟩, hq2, hvw, hm, hqw, hsw⟩
    have hv : id.getD 16 ≤ 16 := by
      cases id with
      | none => exact le_refl 16
      | some n => exact (hid1 n rfl).trans (by decide)
    refine ⟨_, ⟨⟨Nat.zero_le _, hv⟩, hvw⟩, _, hm, _, ⟨Nat.zero_le _, hq2, rfl⟩, _, ⟨hsr, hsw⟩,
      (hid _ hv).mpr ⟨hid1, rfl⟩, rfl, ?_, rfl⟩
    cases mode with
    | spread => exact (hs rfl).symm
    | quad => exact (arg_eq_iff (by omega)).mpr (hqw rfl)

theorem parseBreakpoints_eq_some {f : List Word} {n i : Nat} {c : Curve} : parseBreakpoints f n i = some c ↔
    c.length = n ∧ (∀ p ∈ c, p.x ≤ 65535 ∧ p.y ≤ 1250) ∧
      Places (fun i w => f.getD i 0 = w) i (c.flatMap fun p => [word p.x, word p.y]) := by
  induction n generalizing i c with
  | zero =>
    rw [List.length_eq_zero_iff]
    simp only [parseBreakpoints, Option.some.injEq]
    constructor
    · rintro rfl
      simp
    · exact fun h => h.1.symm
  | succ n ih =>
    simp only [parseBreakpoints, Option.bind_eq_bind, Option.bind_eq_some_iff, Option.pure_def, Option.some.injEq, ih,
      inRange_arg_eq_some (by decide : 1250 ≤ 65535)]
    constructor
    · rintro ⟨y, ⟨⟨-, hy⟩, hyw⟩, rest, ⟨rfl, hrange, hwords⟩, rfl⟩
      simp only [List.length_cons, List.mem_cons, forall_eq_or_imp, List.flatMap_cons, List.cons_append, List.nil_append,
        places_cons]
      exact ⟨trivial, ⟨⟨arg_le f i, hy⟩, hrange⟩, word_arg f i, hyw, hwords⟩
    · rintro ⟨hlength, hrange, hwords⟩
      cases c with
      | nil => cases hlength
      | cons p rest =>
        simp only [List.mem_cons, forall_eq_or_imp, List.flatMap_cons, List.cons_append, List.nil_append,
          places_cons] at hrange hwords
        obtain ⟨⟨hx, hy⟩, hrange⟩ := hrange
        obtain ⟨hxw, hyw, hwords⟩ := hwords
        refine ⟨p.y, ⟨⟨Nat.zero_le _, hy⟩, hyw⟩, rest, ⟨Nat.succ.inj hlength, hrange, hwords⟩, ?_⟩
        rw [(arg_eq_iff hx).mpr hxw]

theorem parseCurve_eq_some {f : List Word} {e : Curve} :
    parseCurve f = some e ↔ Curve.InRange e ∧ Spells f (curveWords e) := by
  simp only [parseCurve, Option.bind_eq_bind, Option.bind_eq_some_iff, inRange_arg_eq_some (by decide : 8 ≤ 65535),
    parseBreakpoints_eq_some, spells_iff_places, curveWords, places_cons, Curve.InRange]
  constructor
  · rintro ⟨n, ⟨⟨h1, h2⟩, h3⟩, rfl, h4, h5⟩
    exact ⟨⟨h1, h2, h4⟩, h3, h5⟩
  · rintro ⟨⟨h1, h2, h4⟩, h3, h5⟩
    exact ⟨_, ⟨⟨h1, h2⟩, h3⟩, rfl, h4, h5⟩

theorem parseCeiling_eq_some {action : Action} {form value : Nat} {c : Option CeilingForm} :
    parseCeiling action form value = some c ↔
      match c with
      | some (.fixed v) => action = .ceiling ∧ v ≤ 1250 ∧ form = 0 ∧ value = v
      | some (.curve k) => action = .ceiling ∧ k ≤ 3 ∧ form = 1 ∧ value = k
      | none => action ≠ .ceiling ∧ form = allOnes ∧ value = allOnes := by
  unfold parseCeiling
  split_ifs with hceiling hones
  · split
    · rcases c with _ | _ | _ <;> simp [inRange_eq_some, hceiling]
      grind
    · rcases c with _ | _ | _ <;> simp [inRange_eq_some, hceiling]
      grind
    · rcases c with _ | _ | _ <;> simp [hceiling] <;> grind
  · rcases c with _ | _ | _ <;> simp [hceiling, hones]
  · rcases c with _ | _ | _
    · simpa [hceiling] using not_and.mp hones
    · simp [hceiling]
    · simp [hceiling]

theorem parseCeiling_arg {f : List Word} {i : Nat} {action : Action} {c : Option CeilingForm} :
    parseCeiling action (arg f i) (arg f (i + 1)) = some c ↔
      ((action = .ceiling → (∃ v, c = some (.fixed v) ∧ v ≤ 1250) ∨ ∃ k, c = some (.curve k) ∧ k ≤ 3) ∧
        (action ≠ .ceiling → c = none)) ∧
      Places (fun i w => f.getD i 0 = w) i (ceilingWords c) := by
  rw [parseCeiling_eq_some]
  rcases c with _ | v | k
  · simp only [ceilingWords, places_cons, places_nil, and_true, arg_eq_allOnes]
    simp
  · simp only [ceilingWords, places_cons, places_nil, and_true, ← arg_eq_iff (by decide : 0 ≤ 65535)]
    by_cases hv : v ≤ 1250
    · rw [← arg_eq_iff (f := f) (i := i + 1) (n := v) (by omega)]
      simp [hv]
    · simp [hv]
  · simp only [ceilingWords, places_cons, places_nil, and_true, ← arg_eq_iff (by decide : 1 ≤ 65535)]
    by_cases hk : k ≤ 3
    · rw [← arg_eq_iff (f := f) (i := i + 1) (n := k) (by omega)]
      simp [hk]
    · simp [hk]

theorem thresholdsAgree_iff (sense : Sense) (threshold release : Nat) : thresholdsAgree sense threshold release = true ↔
    (sense = .above → release ≤ threshold) ∧ (sense = .below → threshold ≤ release) := by
  cases sense <;> simp [thresholdsAgree]

theorem scaledAgrees_iff (scaled : Bool) (scope : Scope) :
    scaledAgrees scaled scope = true ↔ (scaled = true → ∃ l, scope = .lane l) := by
  cases scope <;> simp [scaledAgrees]

/-- A row's parser answers an entry exactly when each field's parser answers that field. -/
theorem parseRow_iff_fields {f : List Word} {e : RowEntry} : parseRow f = some e ↔
    inRange 0 63 (arg f 0) = some e.source ∧ coded senses (arg f 1) = some e.sense ∧ arg f 2 = e.threshold ∧
    arg f 3 = e.release ∧ inRange 1 255 (arg f 4) = some e.qualifyCount ∧ inRange 1 255 (arg f 5) = some e.releaseCount ∧
    coded actions (arg f 6) = some e.action ∧ parseCeiling e.action (arg f 7) (arg f 8) = some e.ceiling ∧
    parseScope (arg f 9) (arg f 10) = some e.scope ∧ coded latches (arg f 11) = some e.latch ∧
    coded reports (arg f 12) = some e.report ∧ coded yesNo (arg f 13) = some e.gated ∧
    coded yesNo (arg f 14) = some e.scaled ∧ thresholdsAgree e.sense e.threshold e.release = true ∧
    scaledAgrees e.scaled e.scope = true := by
  simp only [parseRow, Option.bind_eq_bind, Option.pure_def]
  simp only [↓Option.bind_eq_some_iff, Option.ite_none_right_eq_some, Bool.and_eq_true, Option.some.injEq]
  constructor
  · rintro ⟨_, h0, _, h1, _, h4, _, h5, _, h6, _, h7, _, h9, _, h11, _, h12, _, h13, _, h14, ⟨hagree, hscaled⟩, rfl⟩
    exact ⟨h0, h1, rfl, rfl, h4, h5, h6, h7, h9, h11, h12, h13, h14, hagree, hscaled⟩
  · rintro ⟨h0, h1, h2, h3, h4, h5, h6, h7, h9, h11, h12, h13, h14, hagree, hscaled⟩
    refine ⟨_, h0, _, h1, _, h4, _, h5, _, h6, _, h7, _, h9, _, h11, _, h12, _, h13, _, h14, ⟨?_, hscaled⟩, ?_⟩
    · rw [h2, h3]
      exact hagree
    · rw [h2, h3]

theorem parseRow_eq_some {f : List Word} {e : RowEntry} : parseRow f = some e ↔ e.InRange ∧ Spells f e.words := by
  have hnumber (i n : Nat) : arg f i = n ↔ n ≤ 65535 ∧ f.getD i 0 = word n := by
    constructor
    · rintro rfl
      exact ⟨arg_le f i, word_arg f i⟩
    · exact fun h => (arg_eq_iff h.1).mpr h.2
  have hlength (sc : Scope) : sc.words.length = 2 := by cases sc <;> rfl
  have hform (c : Option CeilingForm) : (ceilingWords c).length = 2 := by rcases c with _ | _ | _ <;> rfl
  have hwords : Spells f e.words ↔
      f.getD 0 0 = word e.source ∧ f.getD 1 0 = word (codeIn senses e.sense) ∧ f.getD 2 0 = word e.threshold ∧
      f.getD 3 0 = word e.release ∧ f.getD 4 0 = word e.qualifyCount ∧ f.getD 5 0 = word e.releaseCount ∧
      f.getD 6 0 = word (codeIn actions e.action) ∧ Places (fun i w => f.getD i 0 = w) 7 (ceilingWords e.ceiling) ∧
      Places (fun i w => f.getD i 0 = w) 9 e.scope.words ∧ f.getD 11 0 = word (codeIn latches e.latch) ∧
      f.getD 12 0 = word (codeIn reports e.report) ∧ f.getD 13 0 = word (codeIn yesNo e.gated) ∧
      f.getD 14 0 = word (codeIn yesNo e.scaled) := by
    simp only [spells_iff_places, RowEntry.words, List.append_assoc, List.cons_append, List.nil_append, places_append,
      places_cons, places_nil, hlength, hform, Nat.zero_add, Nat.reduceAdd, and_true]
  rw [hwords, parseRow_iff_fields, inRange_arg_eq_some (by decide), inRange_arg_eq_some (by decide),
    inRange_arg_eq_some (by decide), senses_arg, actions_arg, latches_arg, reports_arg, yesNo_arg, yesNo_arg,
    parseScope_arg, parseCeiling_arg, hnumber, hnumber, thresholdsAgree_iff, scaledAgrees_iff]
  constructor
  · rintro ⟨⟨⟨-, r0⟩, h0⟩, h1, ⟨r2, h2⟩, ⟨r3, h3⟩, ⟨⟨r4, r4'⟩, h4⟩, ⟨⟨r5, r5'⟩, h5⟩, h6, ⟨⟨r7, r7'⟩, h7⟩, ⟨r9, h9⟩, h11, h12,
      h13, h14, ⟨hagree, hagree'⟩, hscaled⟩
    exact ⟨⟨r0, r2, r3, r4, r4', r5, r5', r9, hagree, hagree', r7, r7', hscaled⟩,
      h0, h1, h2, h3, h4, h5, h6, h7, h9, h11, h12, h13, h14⟩
  · rintro ⟨⟨r0, r2, r3, r4, r4', r5, r5', r9, hagree, hagree', r7, r7', hscaled⟩,
      h0, h1, h2, h3, h4, h5, h6, h7, h9, h11, h12, h13, h14⟩
    exact ⟨⟨⟨Nat.zero_le _, r0⟩, h0⟩, h1, ⟨r2, h2⟩, ⟨r3, h3⟩, ⟨⟨r4, r4'⟩, h4⟩, ⟨⟨r5, r5'⟩, h5⟩, h6, ⟨⟨r7, r7'⟩, h7⟩,
      ⟨r9, h9⟩, h11, h12, h13, h14, ⟨hagree, hagree'⟩, hscaled⟩

/-! ### The parsers of fields with defaults -/

theorem ite_bind {α β : Type} {c : Prop} [Decidable c] (a b : Option α) (k : α → Option β) :
    (if c then a.bind k else b.bind k) = (if c then a else b).bind k := by
  split <;> rfl

/-- A field that is optional, as its word. -/
theorem optional_arg_eq_some {f : List Word} {i high : Nat} (h : high < 65535) {p : Option Nat} :
    (if arg f i = allOnes then some none else (inRange 0 high (arg f i)).map some) = some p ↔
      (∀ n, p = some n → n ≤ high) ∧ f.getD i 0 = wordOrNone p := by
  by_cases hones : arg f i = allOnes
  · rw [if_pos hones, arg_eq_allOnes.mp hones, Option.some.injEq]
    cases p with
    | none => simp [wordOrNone]
    | some n =>
      simp only [reduceCtorEq, false_iff, not_and, Option.some.injEq, forall_eq', wordOrNone]
      intro hn hword
      have := (word_inj (m := 65535) (by omega) (by omega)).mp hword
      omega
  · rw [if_neg hones]
    rw [arg_eq_allOnes] at hones
    cases p with
    | none => simpa [wordOrNone] using hones
    | some n => simp [inRange_arg_eq_some (Nat.le_of_lt h), wordOrNone]

/-- What a field with a default at place `i` says of the entry's word `w` there. -/
def DefaultsTo (f : List Word) (i : Nat) (default w : Word) : Prop :=
  (f.getD i 0 ≠ 0xFFFF#16 → f.getD i 0 = w) ∧ (f.getD i 0 = 0xFFFF#16 → w = default)

theorem probePolicy_arg_eq_some {f : List Word} {i : Nat} {p : ProbePolicy} :
    (if arg f i = allOnes then some .followStrap else coded probePolicies (arg f i)) = some p ↔
      DefaultsTo f i 0 (word (codeIn probePolicies p)) := by
  by_cases hones : arg f i = allOnes
  · rw [if_pos hones]
    rw [arg_eq_allOnes] at hones
    simp only [DefaultsTo, hones, ne_eq, not_true, IsEmpty.forall_iff, true_and, forall_const]
    cases p <;> simp [codeIn, probePolicies, word]
  · rw [if_neg hones, probePolicies_arg]
    rw [arg_eq_allOnes] at hones
    simp only [DefaultsTo, hones, ne_eq, not_false_eq_true, forall_const, IsEmpty.forall_iff, and_true]

theorem inRange_arg32_eq_some {f : List Word} {i low high v : Nat} (h : high < 4294967296) :
    inRange low high (arg32 f i) = some v ↔
      (low ≤ v ∧ v ≤ high) ∧ f.getD i 0 = word (v / 65536) ∧ f.getD (i + 1) 0 = word v := by
  have hlow := arg_le f i
  have hhigh := arg_le f (i + 1)
  have hmod : word v = word (v % 65536) := by
    apply BitVec.eq_of_toNat_eq
    simp [word]
  rw [inRange_eq_some, hmod, ← arg_eq_iff (by omega : v % 65536 ≤ 65535)]
  unfold arg32
  constructor
  · rintro ⟨h1, h2, rfl⟩
    refine ⟨⟨h1, h2⟩, ?_, by omega⟩
    rw [← arg_eq_iff (by omega)]
    omega
  · rintro ⟨⟨h1, h2⟩, h3, h4⟩
    rw [← arg_eq_iff (by omega)] at h3
    omega

theorem parseBudgetClass_arg {f : List Word} {i : Nat} {b : BudgetClass} :
    parseBudgetClass (arg f i) (arg f (i + 1)) = some b ↔
      (match b with
        | .strict rank => 1 ≤ rank ∧ rank ≤ 8
        | .weighted weight => 1 ≤ weight ∧ weight ≤ 127) ∧ Places (fun i w => f.getD i 0 = w) i b.words := by
  have hcase : parseBudgetClass (arg f i) (arg f (i + 1)) = some b ↔
      match b with
      | .strict rank => arg f i = 0 ∧ inRange 1 8 (arg f (i + 1)) = some rank
      | .weighted weight => arg f i = 1 ∧ inRange 1 127 (arg f (i + 1)) = some weight := by
    unfold parseBudgetClass
    split
    · rename_i hform
      cases b <;> simp [hform]
    · rename_i hform
      cases b <;> simp [hform]
    · rename_i h0 h1
      cases b <;> simp only [reduceCtorEq, false_iff, not_and]
      · exact fun h => (h0 h).elim
      · exact fun h => (h1 h).elim
  rw [hcase]
  cases b with
  | strict rank =>
    simp only [BudgetClass.words, places_cons, places_nil, and_true, inRange_arg_eq_some (by decide : 8 ≤ 65535),
      arg_eq_iff (by decide : 0 ≤ 65535)]
    exact and_left_comm
  | weighted weight =>
    simp only [BudgetClass.words, places_cons, places_nil, and_true, inRange_arg_eq_some (by decide : 127 ≤ 65535),
      arg_eq_iff (by decide : 1 ≤ 65535)]
    exact and_left_comm

theorem spellsWithDefaults_iff_places {first : Nat} {defaults f ws : List Word} : SpellsWithDefaults first defaults f ws ↔
    Places (fun i w => (i < first → f.getD i 0 = w) ∧ (first ≤ i → DefaultsTo f i (defaults.getD (i - first) 0) w)) 0 ws := by
  simp only [SpellsWithDefaults, Places, Nat.zero_add]
  rfl

/-- A plan's parser answers an entry exactly when each field's parser answers that field. -/
theorem parseLanePlan_iff_fields {f : List Word} {e : LanePlan} : parseLanePlan f = some e ↔
    inRange 1 65535 (arg f 0) = some e.ratedWatts ∧ inRange 1 65536 (arg32 f 1) = some e.pcal ∧
    (if arg f 3 = allOnes then some none else (inRange 0 63 (arg f 3)).map some) = some e.ratioPoint ∧
    parseBudgetClass (arg f 4) (arg f 5) = some e.budgetClass ∧ withDefault 500 100 1000 (arg f 6) = some e.reducedLevel ∧
    withDefault 5 1 1000 (arg f 7) = some e.rampRate ∧
    (if arg f 8 = allOnes then some .followStrap else coded probePolicies (arg f 8)) = some e.probePolicy := by
  simp only [parseLanePlan, Option.bind_eq_bind, Option.pure_def, ite_bind]
  simp only [Option.bind_eq_some_iff, Option.some.injEq]
  constructor
  · rintro ⟨_, h0, _, h1, _, h3, _, h4, _, h6, _, h7, _, h8, rfl⟩
    exact ⟨h0, h1, h3, h4, h6, h7, h8⟩
  · rintro ⟨h0, h1, h3, h4, h6, h7, h8⟩
    exact ⟨_, h0, _, h1, _, h3, _, h4, _, h6, _, h7, _, h8, rfl⟩

theorem spells_lanePlan_iff {f : List Word} {e : LanePlan} : SpellsWithDefaults 6 [500, 5, 0] f e.words ↔
    f.getD 0 0 = word e.ratedWatts ∧ f.getD 1 0 = word (e.pcal / 65536) ∧ f.getD 2 0 = word e.pcal ∧
    f.getD 3 0 = wordOrNone e.ratioPoint ∧ Places (fun i w => f.getD i 0 = w) 4 e.budgetClass.words ∧
    DefaultsTo f 6 500 (word e.reducedLevel) ∧ DefaultsTo f 7 5 (word e.rampRate) ∧
    DefaultsTo f 8 0 (word (codeIn probePolicies e.probePolicy)) := by
  have hlength (b : BudgetClass) : b.words.length = 2 := by cases b <;> rfl
  have hclass : Places (fun i w => (i < 6 → f.getD i 0 = w) ∧
      (6 ≤ i → DefaultsTo f i (([500, 5, 0] : List Word).getD (i - 6) 0) w)) 4 e.budgetClass.words ↔
      Places (fun i w => f.getD i 0 = w) 4 e.budgetClass.words := by
    cases e.budgetClass <;> simp [BudgetClass.words]
  simp only [spellsWithDefaults_iff_places, LanePlan.words, words32, List.cons_append, List.nil_append,
    places_append, places_cons, places_nil, hlength, Nat.zero_add, Nat.reduceAdd, and_true, hclass]
  simp

theorem parseLanePlan_eq_some {f : List Word} {e : LanePlan} :
    parseLanePlan f = some e ↔ e.InRange ∧ SpellsWithDefaults 6 [500, 5, 0] f e.words := by
  rw [spells_lanePlan_iff, parseLanePlan_iff_fields, inRange_arg_eq_some (by decide), inRange_arg32_eq_some (by decide),
    optional_arg_eq_some (by decide), parseBudgetClass_arg, withDefault_arg_eq_some (by decide) (by decide),
    withDefault_arg_eq_some (by decide) (by decide), probePolicy_arg_eq_some]
  constructor
  · rintro ⟨⟨⟨r0, r0'⟩, h0⟩, ⟨⟨r1, r1'⟩, h1, h2⟩, ⟨r3, h3⟩, ⟨r4, h4⟩, ⟨⟨r6, r6'⟩, h6⟩, ⟨⟨r7, r7'⟩, h7⟩, h8⟩
    exact ⟨⟨r0, r0', r1, r1', r3, r4, r6, r6', r7, r7'⟩, h0, h1, h2, h3, h4, h6, h7, h8⟩
  · rintro ⟨⟨r0, r0', r1, r1', r3, r4, r6, r6', r7, r7'⟩, h0, h1, h2, h3, h4, h6, h7, h8⟩
    exact ⟨⟨⟨r0, r0'⟩, h0⟩, ⟨⟨r1, r1'⟩, h1, h2⟩, ⟨r3, h3⟩, ⟨r4, h4⟩, ⟨⟨r6, r6'⟩, h6⟩, ⟨⟨r7, r7'⟩, h7⟩, h8⟩

/-- The parameters' parser answers an entry exactly when each field's parser answers that field. -/
theorem parseParameters_iff_fields {f : List Word} {e : Parameters} : parseParameters f = some e ↔
    withDefault 500 0 1000 (arg f 0) = some e.blindCeiling ∧ withDefault 20 1 255 (arg f 1) = some e.blindMuteCount ∧
    withDefault 5 1 15 (arg f 2) = some e.headLossLimit ∧
    (if arg f 3 = allOnes then some none else (inRange 0 63 (arg f 3)).map some) = some e.budgetPoint ∧
    withDefault 0 0 3 (arg f 4) = some e.budgetCurve ∧ withDefault 10000 1 65535 (arg f 5) = some e.arcWindow ∧
    withDefault 4 1 8 (arg f 6) = some e.arcLimit ∧ withDefault 20 1 255 (arg f 7) = some e.blankingCount ∧
    withDefault 300 0 1000 (arg f 8) = some e.restrikeLevel ∧ withDefault 50 10 200 (arg f 9) = some e.probeLevel ∧
    withDefault 10 2 255 (arg f 10) = some e.probeLength ∧ withDefault 1000 0 10000 (arg f 11) = some e.probeRatioLimit ∧
    withDefault 1 0 3 (arg f 12) = some e.probeRetries ∧ withDefault 0 0 65535 (arg f 13) = some e.snapshotInterval := by
  constructor
  · intro h
    unfold parseParameters at h
    obtain ⟨_, h0, h⟩ := Option.bind_eq_some_iff.mp h
    obtain ⟨_, h1, h⟩ := Option.bind_eq_some_iff.mp h
    obtain ⟨_, h2, h⟩ := Option.bind_eq_some_iff.mp h
    have hpoint (k : Option Nat → Option Parameters)
        (hk : (if arg f 3 = allOnes then some none >>= k else (inRange 0 63 (arg f 3)).map some >>= k) = some e) :
        ((if arg f 3 = allOnes then some none else (inRange 0 63 (arg f 3)).map some).bind k) = some e :=
      (ite_bind _ _ k).symm.trans hk
    obtain ⟨_, h3, h⟩ := Option.bind_eq_some_iff.mp (hpoint _ h)
    obtain ⟨_, h4, h⟩ := Option.bind_eq_some_iff.mp h
    obtain ⟨_, h5, h⟩ := Option.bind_eq_some_iff.mp h
    obtain ⟨_, h6, h⟩ := Option.bind_eq_some_iff.mp h
    obtain ⟨_, h7, h⟩ := Option.bind_eq_some_iff.mp h
    obtain ⟨_, h8, h⟩ := Option.bind_eq_some_iff.mp h
    obtain ⟨_, h9, h⟩ := Option.bind_eq_some_iff.mp h
    obtain ⟨_, h10, h⟩ := Option.bind_eq_some_iff.mp h
    obtain ⟨_, h11, h⟩ := Option.bind_eq_some_iff.mp h
    obtain ⟨_, h12, h⟩ := Option.bind_eq_some_iff.mp h
    obtain ⟨_, h13, h⟩ := Option.bind_eq_some_iff.mp h
    cases h
    exact ⟨h0, h1, h2, h3, h4, h5, h6, h7, h8, h9, h10, h11, h12, h13⟩
  · rintro ⟨h0, h1, h2, h3, h4, h5, h6, h7, h8, h9, h10, h11, h12, h13⟩
    have hpoint (k : Option Nat → Option Parameters) :
        (if arg f 3 = allOnes then some none >>= k else (inRange 0 63 (arg f 3)).map some >>= k) = k e.budgetPoint :=
      (ite_bind _ _ k).trans (by rw [h3]; rfl)
    unfold parseParameters
    rw [h0, h1, h2]
    refine (hpoint _).trans ?_
    rw [h4, h5, h6, h7, h8, h9, h10, h11, h12, h13]
    rfl

theorem spells_parameters_iff {f : List Word} {e : Parameters} :
    SpellsWithDefaults 0 [500, 20, 5, 0xFFFF, 0, 10000, 4, 20, 300, 50, 10, 1000, 1, 0] f e.words ↔
    DefaultsTo f 0 500 (word e.blindCeiling) ∧ DefaultsTo f 1 20 (word e.blindMuteCount) ∧
    DefaultsTo f 2 5 (word e.headLossLimit) ∧ DefaultsTo f 3 0xFFFF (wordOrNone e.budgetPoint) ∧
    DefaultsTo f 4 0 (word e.budgetCurve) ∧ DefaultsTo f 5 10000 (word e.arcWindow) ∧
    DefaultsTo f 6 4 (word e.arcLimit) ∧ DefaultsTo f 7 20 (word e.blankingCount) ∧
    DefaultsTo f 8 300 (word e.restrikeLevel) ∧ DefaultsTo f 9 50 (word e.probeLevel) ∧
    DefaultsTo f 10 10 (word e.probeLength) ∧ DefaultsTo f 11 1000 (word e.probeRatioLimit) ∧
    DefaultsTo f 12 1 (word e.probeRetries) ∧ DefaultsTo f 13 0 (word e.snapshotInterval) := by
  simp only [spellsWithDefaults_iff_places, Parameters.words, places_cons, places_nil, Nat.not_lt_zero, false_imp_iff,
    Nat.zero_le, forall_const, true_and, and_true]
  rfl

theorem parseParameters_eq_some {f : List Word} {e : Parameters} : parseParameters f = some e ↔ e.InRange ∧
    SpellsWithDefaults 0 [500, 20, 5, 0xFFFF, 0, 10000, 4, 20, 300, 50, 10, 1000, 1, 0] f e.words := by
  have hpoint (p : Option Nat) : f.getD 3 0 = wordOrNone p ∧ (∀ n, p = some n → n ≤ 63) ↔
      DefaultsTo f 3 0xFFFF (wordOrNone p) ∧ (∀ n, p = some n → n ≤ 63) := by
    refine and_congr_left fun hp => ⟨fun h => ⟨fun _ => h, fun hones => ?_⟩, fun h => ?_⟩
    · exact h.symm.trans hones
    · by_cases hones : f.getD 3 0 = 0xFFFF#16
      · exact hones.trans (h.2 hones).symm
      · exact h.1 hones
  rw [spells_parameters_iff, parseParameters_iff_fields, optional_arg_eq_some (by decide), and_comm (b := f.getD 3 0 = _), hpoint]
  iterate 13 rw [withDefault_arg_eq_some (by decide) (by decide)]
  constructor
  · rintro ⟨⟨r0, h0⟩, ⟨r1, h1⟩, ⟨r2, h2⟩, ⟨h3, r3⟩, ⟨r4, h4⟩, ⟨r5, h5⟩, ⟨r6, h6⟩, ⟨r7, h7⟩, ⟨r8, h8⟩, ⟨r9, h9⟩, ⟨r10, h10⟩,
      ⟨r11, h11⟩, ⟨r12, h12⟩, ⟨r13, h13⟩⟩
    exact ⟨⟨r0.2, r1.1, r1.2, r2.1, r2.2, r3, r4.2, r5.1, r5.2, r6.1, r6.2, r7.1, r7.2, r8.2, r9.1, r9.2, r10.1, r10.2, r11.2,
      r12.2, r13.2⟩, h0, h1, h2, h3, h4, h5, h6, h7, h8, h9, h10, h11, h12, h13⟩
  · rintro ⟨⟨r0, r1, r1', r2, r2', r3, r4, r5, r5', r6, r6', r7, r7', r8, r9, r9', r10, r10', r11, r12, r13⟩,
      h0, h1, h2, h3, h4, h5, h6, h7, h8, h9, h10, h11, h12, h13⟩
    exact ⟨⟨⟨Nat.zero_le _, r0⟩, h0⟩, ⟨⟨r1, r1'⟩, h1⟩, ⟨⟨r2, r2'⟩, h2⟩, ⟨h3, r3⟩, ⟨⟨Nat.zero_le _, r4⟩, h4⟩, ⟨⟨r5, r5'⟩, h5⟩,
      ⟨⟨r6, r6'⟩, h6⟩, ⟨⟨r7, r7'⟩, h7⟩, ⟨⟨Nat.zero_le _, r8⟩, h8⟩, ⟨⟨r9, r9'⟩, h9⟩, ⟨⟨r10, r10'⟩, h10⟩,
      ⟨⟨Nat.zero_le _, r11⟩, h11⟩, ⟨⟨Nat.zero_le _, r12⟩, h12⟩, ⟨⟨Nat.zero_le _, r13⟩, h13⟩⟩

end Sys2Proof.Machine

/-! PROOFS. The LOADs, and the entries' round trip through their coding. -/

namespace Sys2Proof.Machine

/-! ### LOAD -/

theorem parseEntry_of_zero {α : Type} (parse : List Word → Option α) (fields : List Word) :
    parseEntry parse 0 fields = some none := rfl

theorem parseEntry_of_one {α : Type} (parse : List Word → Option α) (fields : List Word) :
    parseEntry parse 1 fields = (parse fields).map some := rfl

theorem parseEntry_of_other {α : Type} (parse : List Word → Option α) {definedWord : Word} (h0 : definedWord ≠ 0)
    (h1 : definedWord ≠ 1) (fields : List Word) : parseEntry parse definedWord fields = none := by
  unfold parseEntry
  split
  · rename_i h
    exact absurd (BitVec.eq_of_toNat_eq h) h0
  · rename_i h
    exact absurd (BitVec.eq_of_toNat_eq h) h1
  · rfl

/-- The fields of a LOAD as its payload pads them. -/
def paddedFields (fields : List Word) : List Word := (fields ++ List.replicate 64 0).take 60

theorem arg_paddedFields {fields : List Word} (h : fields.length ≤ 60) (i : Nat) :
    arg (paddedFields fields) i = arg fields i := arg_pad fields 60 64 i h

/-- A LOAD row on a Ready state. -/
theorem State.Ready.load_completes {s t : State} (h : s.Ready) {c : Instr} {tag : Tag} {part index definedWord : Word}
    {fields : List Word} {r : ReplyResult} {data : ReplyData}
    (hrow : exec c s = .next (s.arrive tag (1 :: part :: index :: definedWord :: fields)))
    (htake : takeLoad part index definedWord (paddedFields fields) s = (t, r, data)) :
    exec c s = .next (t.answer tag 1 r data) := by
  have hcommand : takeCommand (decodeCommand (payloadOf (1 :: part :: index :: definedWord :: fields))) s =
      ((takeLoad part index definedWord (paddedFields fields) s).1,
        some (takeLoad part index definedWord (paddedFields fields) s).2) := rfl
  rw [htake] at hcommand
  exact h.exec_completes hrow hcommand

section
variable {s : State} {count : Nat} {part index : Word} {write : Nat → Option TableSet}

theorem loadEntry_of_some {t : TableSet} (hindex : index.toNat < count) (hwrite : write index.toNat = some t) :
    loadEntry s count part index write = ({ s with pendingSet := t }, .done, .loaded part index) := by
  unfold loadEntry
  rw [if_pos hindex, hwrite]

theorem loadEntry_of_none (h : count ≤ index.toNat ∨ write index.toNat = none) :
    loadEntry s count part index write = (s, .range, .empty) := by
  unfold loadEntry
  split_ifs with hindex
  · rw [h.resolve_left (by omega)]
  · rfl

end

/-- A LOAD whose write is of one entry writes that entry alone, or gets RANGE. -/
theorem loadWrites_of_entry {α : Type} {cmd : Tag → Word → Word → List Word → Instr} {count : Nat} {part : Word}
    {parse : List Word → Option α} {write : TableSet → Nat → Option α → TableSet}
    (hrow : ∀ s tag index definedWord fields, exec (cmd tag index definedWord fields) s =
      .next (s.arrive tag (1 :: part :: index :: definedWord :: fields)))
    (htake : ∀ s index definedWord fields, takeLoad part index definedWord fields s =
      loadEntry s count part index fun i => (parseEntry parse definedWord fields).map fun e => write s.pendingSet i e)
    (hparse : ∀ f g, (∀ i, arg f i = arg g i) → parse f = parse g) : LoadWrites cmd count part parse write := by
  intro s tag index definedWord fields h hlength
  have hfields : parse (paddedFields fields) = parse fields := hparse _ _ fun i => arg_paddedFields hlength i
  refine ⟨fun hindex hdefined e he => ?_, fun hindex hdefined => ?_, fun hbad => ?_⟩
  · refine h.load_completes (hrow s tag index definedWord fields) ?_
    rw [htake, loadEntry_of_some hindex (t := write s.pendingSet index.toNat (some e))]
    rw [hdefined, parseEntry_of_one, hfields, he]
    rfl
  · refine h.load_completes (hrow s tag index definedWord fields) ?_
    rw [htake, loadEntry_of_some hindex (t := write s.pendingSet index.toNat none)]
    rw [hdefined, parseEntry_of_zero]
    rfl
  · refine h.load_completes (hrow s tag index definedWord fields) ?_
    rw [htake, loadEntry_of_none]
    rcases hbad with hindex | ⟨h0, h1⟩ | ⟨h1, hnone⟩
    · exact .inl hindex
    · exact .inr (by rw [parseEntry_of_other parse h0 h1]; rfl)
    · exact .inr (by rw [h1, parseEntry_of_one, hfields, hnone]; rfl)

theorem discard_exec {s : State} (h : s.Ready) (tag : Tag) : exec (.discard tag) s =
    .next ({ s with
      pendingSet := { s.activeSet with
        zonePlan := s.activeSet.zonePlan.map fun (z : Option ZoneEntry) =>
          if z.any (fun (e : ZoneEntry) => e.fromDefault) then none else z } }.answer tag 2 .done .empty) := by
  have hzones : s.activeSet.zonePlan.map undoDefault = s.activeSet.zonePlan.map fun (z : Option ZoneEntry) =>
      if z.any (fun (e : ZoneEntry) => e.fromDefault) then none else z :=
    List.map_congr_left fun z _ => undoDefault_eq z
  rw [← hzones]
  exact h.exec_completes (ws := []) rfl rfl

/-- Settles O48: each parser by its own lemma, and each LOAD as a write of one entry. -/
theorem loadsWriteThePendingSet : Obligations.LoadsWriteThePendingSet := by
  unfold Obligations.LoadsWriteThePendingSet
  refine ⟨fun f => ⟨fun _ => parsePoint_eq_some, fun _ => parseHead_eq_some, fun _ => parseCurve_eq_some,
    fun _ => parseRow_eq_some, fun _ => parseZone_eq_some, fun _ => parseLanePlan_eq_some, fun _ => parseParameters_eq_some⟩,
    loadWrites_of_entry (fun _ _ _ _ _ => rfl) (fun _ _ _ _ => rfl) fun f g h => (parse_congr h).1,
    loadWrites_of_entry (fun _ _ _ _ _ => rfl) (fun _ _ _ _ => rfl) fun f g h => (parse_congr h).2.1,
    loadWrites_of_entry (fun _ _ _ _ _ => rfl) (fun _ _ _ _ => rfl) fun f g h => (parse_congr h).2.2.1,
    loadWrites_of_entry (fun _ _ _ _ _ => rfl) (fun _ _ _ _ => rfl) fun f g h => (parse_congr h).2.2.2.1,
    loadWrites_of_entry (fun _ _ _ _ _ => rfl) (fun _ _ _ _ => rfl) fun f g h => (parse_congr h).2.2.2.2.1,
    loadWrites_of_entry (fun _ _ _ _ _ => rfl) (fun _ _ _ _ => rfl) fun f g h => (parse_congr h).2.2.2.2.2.1,
    fun s tag h => discard_exec h tag, fun s tag index definedWord fields h hlength => ?_⟩
  have hparse : parseParameters (paddedFields fields) = parseParameters fields :=
    (parse_congr fun i => arg_paddedFields hlength i).2.2.2.2.2.2.1
  have htake : takeLoad 6 index definedWord (paddedFields fields) s = loadEntry s 1 6 index fun _ =>
      match parseEntry parseParameters definedWord (paddedFields fields) with
      | some (some p) => some { s.pendingSet with parameters := p }
      | _ => none := rfl
  refine ⟨fun hindex hdefined e he => ?_, fun hbad => ?_⟩
  · refine h.load_completes rfl ?_
    rw [htake, loadEntry_of_some (by rw [hindex]; decide) (t := { s.pendingSet with parameters := e })]
    rw [hdefined, parseEntry_of_one, hparse, he]
    rfl
  · refine h.load_completes rfl ?_
    rw [htake, loadEntry_of_none]
    rcases hbad with hindex | hdefined | hnone
    · refine .inl (Nat.one_le_iff_ne_zero.mpr fun hzero => hindex (BitVec.eq_of_toNat_eq hzero))
    · refine .inr ?_
      by_cases h0 : definedWord = 0
      · rw [h0, parseEntry_of_zero]
      · rw [parseEntry_of_other _ h0 hdefined]
    · refine .inr ?_
      by_cases h0 : definedWord = 0
      · rw [h0, parseEntry_of_zero]
      · by_cases h1 : definedWord = 1
        · rw [h1, parseEntry_of_one, hparse, hnone]
          rfl
        · rw [parseEntry_of_other _ h0 h1]

/-! ### The entries' round trip -/

theorem spells_self (ws : List Word) : Spells ws ws := fun _ _ => rfl

theorem parsePoint_words {e : PointEntry} (h : e.InRange) : parsePoint e.words = some e :=
  parsePoint_eq_some.mpr ⟨h, spells_self _⟩

theorem parseHead_words {e : HeadEntry} (h : e.InRange) : parseHead e.words = some e := by
  refine parseHead_eq_some.mpr ⟨h, ?_, fun _ _ _ => rfl⟩
  have hword : e.words.getD 2 0 = word e.quadInput := rfl
  rw [hword, toNat_word (h.2.1.trans (by decide))]
  exact h.2.1

theorem parseCurve_words {e : Curve} (h : Curve.InRange e) : parseCurve (curveWords e) = some e :=
  parseCurve_eq_some.mpr ⟨h, spells_self _⟩

theorem parseRow_words {e : RowEntry} (h : e.InRange) : parseRow e.words = some e :=
  parseRow_eq_some.mpr ⟨h, spells_self _⟩

theorem parseZone_words {e : ZoneEntry} (h : e.InRange) : parseZone e.words = some e :=
  parseZone_eq_some.mpr ⟨h, spells_self _⟩

/-- A word below all ones at a place with a default spells itself. -/
theorem defaultsTo_self {f : List Word} {i n : Nat} {default : Word} (hi : f.getD i 0 = word n) (hn : n < 65535) :
    DefaultsTo f i default (word n) := by
  refine ⟨fun _ => hi, fun hones => absurd (hi.symm.trans hones) fun h => ?_⟩
  have := (word_inj (n := 65535) (by omega) (by omega)).mp h
  omega

theorem parseLanePlan_words {e : LanePlan} (h : e.InRange) : parseLanePlan e.words = some e := by
  refine parseLanePlan_eq_some.mpr ⟨h, spells_lanePlan_iff.mpr ?_⟩
  obtain ⟨ratedWatts, pcal, ratioPoint, budgetClass, reducedLevel, rampRate, probePolicy⟩ := e
  obtain ⟨-, -, -, -, -, -, -, hreduced, -, hramp⟩ := h
  have hpolicy : codeIn probePolicies probePolicy < 65535 :=
    (codeIn_le probePolicies probePolicy).trans_lt (by decide)
  cases budgetClass with
  | strict rank =>
    exact ⟨rfl, rfl, rfl, rfl, by simp [BudgetClass.words, LanePlan.words, words32],
      defaultsTo_self rfl (Nat.lt_of_le_of_lt hreduced (by decide)),
      defaultsTo_self rfl (Nat.lt_of_le_of_lt hramp (by decide)), defaultsTo_self rfl hpolicy⟩
  | weighted weight =>
    exact ⟨rfl, rfl, rfl, rfl, by simp [BudgetClass.words, LanePlan.words, words32],
      defaultsTo_self rfl (Nat.lt_of_le_of_lt hreduced (by decide)),
      defaultsTo_self rfl (Nat.lt_of_le_of_lt hramp (by decide)), defaultsTo_self rfl hpolicy⟩

theorem parseParameters_words {e : Parameters} (h : e.InRange) (hwindow : e.arcWindow ≠ 65535)
    (hinterval : e.snapshotInterval ≠ 65535) : parseParameters e.words = some e := by
  refine parseParameters_eq_some.mpr ⟨h, spells_parameters_iff.mpr ?_⟩
  obtain ⟨r0, -, r1, -, r2, r3, r4, -, r5, -, r6, -, r7, r8, -, r9, -, r10, r11, r12, r13⟩ := h
  have hpoint : DefaultsTo e.words 3 0xFFFF (wordOrNone e.budgetPoint) := ⟨fun _ => rfl, fun hones => hones⟩
  exact ⟨defaultsTo_self rfl (by omega), defaultsTo_self rfl (by omega), defaultsTo_self rfl (by omega), hpoint,
    defaultsTo_self rfl (by omega), defaultsTo_self rfl (by omega), defaultsTo_self rfl (by omega),
    defaultsTo_self rfl (by omega), defaultsTo_self rfl (by omega), defaultsTo_self rfl (by omega),
    defaultsTo_self rfl (by omega), defaultsTo_self rfl (by omega), defaultsTo_self rfl (by omega),
    defaultsTo_self rfl (by omega)⟩

/-- No loaded field with a default is all ones: all ones takes the default. -/
theorem DefaultsTo.ne_allOnes {f : List Word} {i d n : Nat} (h : DefaultsTo f i (word d) (word n)) (hd : d < 65535) :
    n ≠ 65535 := by
  rintro rfl
  by_cases hones : f.getD i 0 = 0xFFFF#16
  · have := (word_inj (m := 65535) (by omega) (by omega)).mp (h.2 hones)
    omega
  · exact hones (h.1 hones)

theorem parseParameters_words_of_parsed {f : List Word} {e : Parameters} (h : parseParameters f = some e) :
    parseParameters e.words = some e := by
  obtain ⟨hrange, hspells⟩ := parseParameters_eq_some.mp h
  obtain ⟨-, -, -, -, -, hwindow, -, -, -, -, -, -, -, hinterval⟩ := spells_parameters_iff.mp hspells
  exact parseParameters_words hrange (hwindow.ne_allOnes (d := 10000) (by decide)) (hinterval.ne_allOnes (d := 0) (by decide))

theorem parseSite_words_of_parsed {f : List Word} {e : SiteRecord} (h : parseSite f = some e) :
    parseSite e.words = some e := by
  obtain ⟨h0, h1, h1', h2, h3, h4, h5, h6, rfl⟩ := parseSite_eq_some.mp h
  generalize hr : SiteRecord.mk (arg f 0) (arg f 1) (arg f 2) (arg f 3) (arg f 4) (arg f 5) (arg32 f 6) = r
  have harg (i n : Nat) (hi : r.words.getD i 0 = word n) (hn : n ≤ 65535) : arg r.words i = n := (arg_eq_iff hn).mpr hi
  have hmaximum : arg32 r.words 6 = r.siteMaximum := by
    have hsome : inRange 1 1000000 (arg32 r.words 6) = some r.siteMaximum :=
      (inRange_arg32_eq_some (by decide)).mpr ⟨by rw [← hr]; exact h6, rfl, rfl⟩
    exact (inRange_eq_some.mp hsome).2.2
  rw [parseSite_eq_some, hmaximum, harg 0 (arg f 0) (by rw [← hr]; rfl) (arg_le f 0),
    harg 1 (arg f 1) (by rw [← hr]; rfl) (arg_le f 1), harg 2 (arg f 2) (by rw [← hr]; rfl) (arg_le f 2),
    harg 3 (arg f 3) (by rw [← hr]; rfl) (arg_le f 3), harg 4 (arg f 4) (by rw [← hr]; rfl) (arg_le f 4),
    harg 5 (arg f 5) (by rw [← hr]; rfl) (arg_le f 5)]
  exact ⟨h0, h1, h1', h2, h3, h4, h5, by rw [← hr]; exact h6, by rw [← hr]⟩

/-! ### The words of each entry -/

theorem setWords_length (count : Nat) (members : List Nat) : (setWords count members).length = count := by
  simp [setWords]

theorem setWords_bit {count k : Nat} (hk : k < 16 * count) (members : List Nat) :
    ((setWords count members).getD (k / 16) 0).getLsbD (k % 16) = true ↔ k ∈ members := by
  have hword : (setWords count members).getD (k / 16) 0 =
      word (bitsOf ((List.range 16).map fun b => members.contains (16 * (k / 16) + b))) := by
    have hlt : k / 16 < count := by omega
    simp [setWords, List.getD_eq_getElem?_getD, hlt]
  have hbit : k % 16 < 16 := Nat.mod_lt k (by decide)
  rw [hword, word, BitVec.getLsbD_ofNat, testBit_bitsOf]
  simp [List.getD_eq_getElem?_getD, hbit, Nat.div_add_mod]

theorem pointEntry_words (e : PointEntry) : e.words =
    (match e.kind with
      | .fwd => 0
      | .ref => 1
      | .ratio => 2
      | .temp => 3
      | .flow => 4
      | .level => 5) :: e.scope.words ++
    match e.source with
      | .ratio forward reflected => [word forward, word reflected]
      | .head position input fold gain offset =>
        [word position, word input, match fold with
          | .peak => 0
          | .trough => 1
          | .mean => 2
          | .last => 3, word gain, BitVec.ofInt 16 offset] := by
  obtain ⟨kind, scope, source⟩ := e
  have hkind : word (codeIn pointKinds kind) = match kind with
      | .fwd => 0 | .ref => 1 | .ratio => 2 | .temp => 3 | .flow => 4 | .level => 5 := by
    cases kind <;> rfl
  cases source with
  | ratio forward reflected =>
    show _ :: scope.words ++ _ = _
    rw [hkind]
  | head position input fold gain offset =>
    show _ :: scope.words ++ [_, _, word (codeIn folds fold), _, _] = _
    have hfold : word (codeIn folds fold) = match fold with | .peak => 0 | .trough => 1 | .mean => 2 | .last => 3 := by
      cases fold <;> rfl
    rw [hkind, hfold] <;> rfl

theorem rowEntry_words (e : RowEntry) : e.words =
    [word e.source, if e.sense = .above then 0 else 1, word e.threshold, word e.release, word e.qualifyCount,
      word e.releaseCount, match e.action with
        | .note => 0
        | .ceiling => 1
        | .mute => 2
        | .arc => 3] ++
    (match e.ceiling with
      | some (.fixed v) => [0, word v]
      | some (.curve c) => [1, word c]
      | none => [0xFFFF, 0xFFFF]) ++ e.scope.words ++
    [if e.latch = .latch then 1 else 0, if e.report = .alert then 0 else 1, if e.gated then 0 else 1,
      if e.scaled then 0 else 1] := by
  obtain ⟨source, sense, threshold, release, qualifyCount, releaseCount, action, ceiling, scope, outlast, report, gated,
    scaled⟩ := e
  have hsense : word (codeIn senses sense) = if sense = .above then 0 else 1 := by cases sense <;> rfl
  have haction : word (codeIn actions action) = match action with | .note => 0 | .ceiling => 1 | .mute => 2 | .arc => 3 := by
    cases action <;> rfl
  have hceiling : ceilingWords ceiling = match ceiling with
      | some (.fixed v) => [0, word v]
      | some (.curve c) => [1, word c]
      | none => [0xFFFF, 0xFFFF] := by
    rcases ceiling with _ | _ | _ <;> rfl
  have hlatch : word (codeIn latches outlast) = if outlast = .latch then 1 else 0 := by cases outlast <;> rfl
  have hreport : word (codeIn reports report) = if report = .alert then 0 else 1 := by cases report <;> rfl
  have hyes (b : Bool) : word (codeIn yesNo b) = if b then 0 else 1 := by cases b <;> rfl
  show [_, _, _, _, _, _, _] ++ ceilingWords ceiling ++ scope.words ++ [_, _, _, _] = _
  rw [hsense, haction, hceiling, hlatch, hreport, hyes, hyes]

/-- Settles O23. -/
theorem loadedEntriesReadBackInTheirCoding : Obligations.LoadedEntriesReadBackInTheirCoding := by
  unfold Obligations.LoadedEntriesReadBackInTheirCoding
  refine ⟨⟨fun _ => rfl, fun _ => rfl, rfl, rfl, rfl, fun _ => rfl, rfl, fun _ => rfl, fun count members =>
      ⟨setWords_length count members, fun k hk => setWords_bit hk members⟩⟩,
    ⟨fun _ => rfl, fun _ => rfl, rfl, fun _ => rfl, rfl, rfl, pointEntry_words, fun e => ?_, fun _ => rfl, rowEntry_words,
      fun _ => rfl, fun e => ?_, fun _ => rfl, fun _ => rfl⟩, fun f => ⟨fun e h => ?_, fun e h => ?_, fun e h => ?_,
      fun e h => ?_, fun e h => ?_, fun e h => ?_, fun e h => parseParameters_words_of_parsed h,
      fun e h => parseSite_words_of_parsed h⟩,
    fun e => parsePoint_words, fun e => parseHead_words, fun e => parseCurve_words, fun e => parseRow_words,
    fun e => parseZone_words, fun e => parseLanePlan_words, fun e => parseParameters_words⟩
  · obtain ⟨id, mode, quad, scope⟩ := e
    cases id <;> cases mode <;> rfl
  · obtain ⟨ratedWatts, pcal, ratioPoint, budgetClass, reducedLevel, rampRate, probePolicy⟩ := e
    cases budgetClass <;> cases probePolicy <;> rfl
  · exact parsePoint_words (parsePoint_eq_some.mp h).1
  · exact parseHead_words (parseHead_eq_some.mp h).1
  · exact parseCurve_words (parseCurve_eq_some.mp h).1
  · exact parseRow_words (parseRow_eq_some.mp h).1
  · exact parseZone_words (parseZone_eq_some.mp h).1
  · exact parseLanePlan_words (parseLanePlan_eq_some.mp h).1

end Sys2Proof.Machine

/-! PROOFS. CLEAR on a Ready state: rows, zones and lanes. -/

namespace Sys2Proof.Machine

/-! ### The sets that a CLEAR names -/

theorem mem_namedBits {ws : List Word} {k : Nat} :
    k ∈ namedBits ws ↔ k < 16 * ws.length ∧ (ws.getD (k / 16) 0).getLsbD (k % 16) = true := by
  rw [namedBits, List.mem_filter, List.mem_range]

theorem namedBits_pairwise (ws : List Word) : (namedBits ws).Pairwise (· < ·) := List.pairwise_lt_range.filter _

theorem mem_namedBits_one {w : Word} {k : Nat} : k ∈ namedBits [w] ↔ w.getLsbD k = true := by
  rw [mem_namedBits]
  constructor
  · rintro ⟨hk, h⟩
    have hk : k < 16 := hk
    rwa [Nat.div_eq_of_lt hk, Nat.mod_eq_of_lt hk] at h
  · intro h
    have hk : k < 16 := BitVec.lt_of_getLsbD h
    exact ⟨hk, by rwa [Nat.div_eq_of_lt hk, Nat.mod_eq_of_lt hk]⟩

theorem namedBits_zero : namedBits [0] = [] := by decide

/-- One bit names one index. -/
theorem namedBits_bit {k : Nat} (hk : k < 16) : namedBits [BitVec.ofNat 16 (2 ^ k)] = [k] := by
  interval_cases k <;> decide

/-- A set of eight indices names one that does not exist exactly when its word has a bit above them. -/
theorem namedBits_any_beyond (w : Word) : (namedBits [w]).any (8 ≤ ·) = true ↔ 256 ≤ w.toNat := by
  simp only [List.any_eq_true, mem_namedBits_one, decide_eq_true_eq, BitVec.getLsbD]
  constructor
  · rintro ⟨k, hbit, hk⟩
    by_contra hlt
    rw [Nat.testBit_lt_two_pow (lt_of_lt_of_le (Nat.not_le.mp hlt) (Nat.pow_le_pow_right (by decide : 0 < 2) hk))] at hbit
    cases hbit
  · intro h
    obtain ⟨k, hk, hbit⟩ := Nat.exists_ge_and_testBit_of_ge_two_pow (n := 8) h
    exact ⟨k, hbit, hk⟩

/-- Four words of rows name one that does not exist exactly when the last is not 0. -/
theorem namedBits_any_row (r0 r1 r2 r3 : Word) : (namedBits [r0, r1, r2, r3]).any (rowCount ≤ ·) = true ↔ r3 ≠ 0 := by
  simp only [List.any_eq_true, mem_namedBits, decide_eq_true_eq]
  have hcount : rowCount = 48 := rfl
  constructor
  · rintro ⟨k, ⟨hlt, hbit⟩, hk⟩ rfl
    have hword : k / 16 = 3 := by
      have : k < 64 := hlt
      omega
    rw [hword] at hbit
    simp at hbit
  · intro h
    obtain ⟨i, hi, hbit⟩ : ∃ i, i < 16 ∧ r3.getLsbD i = true := by
      by_contra hnone
      refine h (BitVec.eq_of_getLsbD_eq fun i hi => ?_)
      simpa using fun hbit => hnone ⟨i, hi, hbit⟩
    refine ⟨48 + i, ⟨by simp; omega, ?_⟩, by omega⟩
    rw [(by omega : (48 + i) / 16 = 3), (by omega : (48 + i) % 16 = i)]
    exact hbit

/-! ### CLEAR as one event -/

/-- What a CLEAR answers. -/
def ClearTally.reply (n : ClearTally) : ReplyResult × ReplyData :=
  (if n.stayedRows = [] ∧ n.stayedLanes = [] then .done else .partialDone,
    .cleared n.stayedRows n.stayedLanes n.unlatched n.returned n.unlocked)

section
variable {s : State} {seenOption lanes zones : Word} {rows : List Word}

theorem takeClear_of_illegal (h : 1 < seenOption.toNat ∨ (namedBits rows).any (rowCount ≤ ·) = true ∨
    (namedBits [lanes]).any (laneCount ≤ ·) = true ∨ (namedBits [zones]).any (zoneCount ≤ ·) = true) :
    takeClear seenOption rows lanes zones s = (s, .range, .empty) := if_pos h

theorem takeClear_of_legal (h : ¬ (1 < seenOption.toNat ∨ (namedBits rows).any (rowCount ≤ ·) = true ∨
    (namedBits [lanes]).any (laneCount ≤ ·) = true ∨ (namedBits [zones]).any (zoneCount ≤ ·) = true)) :
    takeClear seenOption rows lanes zones s =
      ((clearAll (seenOption == 1) (namedBits rows) (namedBits [zones]) (namedBits [lanes]) s).1,
        (clearAll (seenOption == 1) (namedBits rows) (namedBits [zones]) (namedBits [lanes]) s).2.reply) := by
  unfold takeClear
  dsimp only
  rw [if_neg h]
  unfold clearAll ClearTally.reply
  simp only [Bool.and_eq_true, List.isEmpty_iff]

end

/-- A CLEAR row on a Ready state. -/
theorem State.Ready.clear_completes {s t : State} (h : s.Ready) {tag : Tag} {seenOption r0 r1 r2 r3 lanes zones : Word}
    {r : ReplyResult} {data : ReplyData} (htake : takeClear seenOption [r0, r1, r2, r3] lanes zones s = (t, r, data)) :
    exec (.clear tag seenOption r0 r1 r2 r3 lanes zones) s = .next (t.answer tag 6 r data) := by
  have hcommand : takeCommand (decodeCommand (payloadOf [6, seenOption, r0, r1, r2, r3, lanes, zones])) s =
      ((takeClear seenOption [r0, r1, r2, r3] lanes zones s).1,
        some (takeClear seenOption [r0, r1, r2, r3] lanes zones s).2) := rfl
  rw [htake] at hcommand
  exact h.exec_completes rfl hcommand

/-- A CLEAR that names only what exists runs over the rows, the zones and the lanes. -/
theorem State.Ready.clear_exec {s : State} (h : s.Ready) (tag : Tag) {seenOption r0 r1 r2 r3 lanes zones : Word}
    (hseen : seenOption.toNat ≤ 1) (hrows : r3 = 0) (hlanes : lanes.toNat < 256) (hzones : zones.toNat < 256)
    {t : State} {n : ClearTally}
    (hall : clearAll (seenOption == 1) (namedBits [r0, r1, r2, r3]) (namedBits [zones]) (namedBits [lanes]) s = (t, n)) :
    exec (.clear tag seenOption r0 r1 r2 r3 lanes zones) s = .next (t.answer tag 6 n.reply.1 n.reply.2) := by
  refine h.clear_completes ((takeClear_of_legal ?_).trans (by rw [hall]))
  rw [namedBits_any_row]
  have h1 := namedBits_any_beyond lanes
  have h2 := namedBits_any_beyond zones
  rintro (hbad | hbad | hbad | hbad)
  · omega
  · exact hbad hrows
  · have := h1.mp hbad
    omega
  · have := h2.mp hbad
    omega

/-! ### Rows -/

theorem State.returnRow_frame (s : State) (d : RowEntry) (r i : Nat) (q : RowRuntime) : s.returnRow d r i q =
    { s with
      rowRuntimes := s.rowRuntimes.set r (some q.ended)
      pointRecords := s.pointRecords.set i (some
        { state := .noValue, value := none, overRange := false, noisy := false })
      notices := (s.returnRow d r i q).notices, noticesDropped := (s.returnRow d r i q).noticesDropped
      droppedCount := (s.returnRow d r i q).droppedCount } :=
  State.queueNotice?_frame ((s.setRow r q.ended).setPoint i PointRecord.initial) _

/-- The release notice of a row that a CLEAR returns to IDLE. -/
def returnedNotice (sweep : SweepNo) (r : Nat) : Notice :=
  { subject := .row r, state := .row .idle false, value := .none, sweep, changes := 1 }

theorem State.returnRow_noticesOf (s : State) (d : RowEntry) (r i : Nat) (q : RowRuntime) :
    (s.returnRow d r i q).NoticesOf
      (s.queuing ((if d.report = .alert then [r] else []).map (returnedNotice s.lastEvaluation))) := by
  unfold State.returnRow
  rw [State.queueNotice?_eq_queuing]
  have hnotices : (if d.report = .alert then some (rowNotice r .idle false none s.lastEvaluation) else none).toList =
      (if d.report = .alert then [r] else []).map (returnedNotice s.lastEvaluation) := by
    split_ifs <;> rfl
  rw [hnotices]
  exact State.NoticesOf.queuing
    (s := (s.setRow r q.ended).setPoint i PointRecord.initial) (t := s) ⟨rfl, rfl, rfl⟩ _

theorem RowRuntime.named_eq (q : RowRuntime) (seenOption : Word) : q.named (seenOption == 1) =
    { q with extreme := none, seen := if seenOption = 1 then false else q.seen } := by
  simp [RowRuntime.named]

theorem RowRuntime.ended_of_idle {q : RowRuntime} {seenGiven : Bool} (h : q.phase = .idle) : (q.named seenGiven).ended =
    { q.named seenGiven with progress := 0, latched := false, ceilingInForce := none } := by
  simp [RowRuntime.ended, RowRuntime.named, h]

theorem toNat_eq_ite (b : Bool) : b.toNat = if b then 1 else 0 := by cases b <;> rfl

section
variable {s t : State} {n : ClearTally} {seenGiven : Bool} {r i : Nat} {d : RowEntry} {q : RowRuntime}

/-- What a CLEAR does to one row, on any state and tally that it has reached. -/
theorem clearRow_cases (hd : t.activeSet.row r = some d) (hq : t.rowRuntime r = some q) :
    (q.phase = .idle → q.latched = true → clearRow s seenGiven r (t, n) =
      (t.setRow r { q.named seenGiven with progress := 0, latched := false, ceilingInForce := none },
        { n with unlatched := n.unlatched + 1 })) ∧
    (q.phase = .idle → q.latched = false → clearRow s seenGiven r (t, n) = (t.setRow r (q.named seenGiven), n)) ∧
    (q.phase ≠ .idle → (q.phase = .pending ∨ ∀ i, ¬ s.HeldSource r i) → clearRow s seenGiven r (t, n) =
      (t.setRow r (q.named seenGiven), { n with stayedRows := n.stayedRows ++ [r] })) ∧
    ∀ i, q.phase = .asserted ∨ q.phase = .clearing → s.HeldSource r i → clearRow s seenGiven r (t, n) =
      (t.returnRow d r i (q.named seenGiven),
        { n with unlatched := n.unlatched + q.latched.toNat, returned := n.returned + 1 }) :=
  ⟨fun h1 h2 => by rw [clearRow_of_latched (p := (t, n)) hd hq h1 h2, RowRuntime.ended_of_idle h1],
    fun h1 h2 => clearRow_of_idle (p := (t, n)) hd hq h1 h2,
    fun h1 h2 => clearRow_of_stays (p := (t, n)) hd hq h1 (h2.imp_right (s.heldRatioSource_eq_none r).mpr),
    fun i h1 h2 => clearRow_of_returned (p := (t, n)) hd hq h1 ((s.heldRatioSource_eq_some r i).mpr h2)⟩

end

/-- Two rows returned by one CLEAR, on one HELD ratio: both end, in order, and the point is without a value. -/
theorem State.returnRow_twice (s : State) (d e : RowEntry) (r k i : Nat) (q x : RowRuntime) :
    let t := (s.returnRow d r i q).returnRow e k i x
    t = { s with
      rowRuntimes := (s.rowRuntimes.set r (some q.ended)).set k (some x.ended)
      pointRecords := s.pointRecords.set i (some
        { state := .noValue, value := none, overRange := false, noisy := false })
      notices := t.notices, noticesDropped := t.noticesDropped, droppedCount := t.droppedCount } ∧
    t.NoticesOf (s.queuing (((if d.report = .alert then [r] else []) ++ if e.report = .alert then [k] else []).map
      (returnedNotice s.lastEvaluation))) := by
  have hfirst := s.returnRow_frame d r i q
  have hfirstNotices := s.returnRow_noticesOf d r i q
  have hsecond := (s.returnRow d r i q).returnRow_frame e k i x
  have hsecondNotices := (s.returnRow d r i q).returnRow_noticesOf e k i x
  constructor
  · refine hsecond.trans ?_
    generalize (s.returnRow d r i q).returnRow e k i x = t
    rw [hfirst]
    simp only [List.set_set]
  · have hsweep : (s.returnRow d r i q).lastEvaluation = s.lastEvaluation := by rw [hfirst]
    rw [hsweep] at hsecondNotices
    rw [List.map_append, State.queuing_append]
    exact hsecondNotices.trans (hfirstNotices.queuing _)

/-- Settles O54. -/
theorem clearOfRows : Obligations.ClearOfRows := by
  unfold Obligations.ClearOfRows
  refine ⟨?_, fun ws =>
    ⟨namedBits_pairwise ws, fun k => mem_namedBits⟩, fun s t n seenGiven r => ⟨fun hnone => ?_, fun d q hd hq => ?_⟩⟩
  · intro s tag seenOption rows0 rows1 rows2 rows3 lanes zones h command rowSet
    have one (b : Bool) (r : Nat) (hset : rowSet = [r]) (hlanes : lanes = 0) (hzones : zones = 0) :
        clearAll b rowSet (namedBits [zones]) (namedBits [lanes]) s = clearRow s b r (s, ClearTally.zero) := by
      rw [hset, hlanes, hzones, namedBits_zero]
      rfl
    have exists_of (hrows : ∀ r ∈ rowSet, r < rowCount) : rows3 = 0 := by
      by_contra hne
      obtain ⟨r, hr, hbeyond⟩ := List.any_eq_true.mp ((namedBits_any_row rows0 rows1 rows2 rows3).mpr hne)
      have := hrows r hr
      simp at hbeyond
      omega
    have named (hseen : seenOption.toNat ≤ 1) (hrows : rows3 = 0) (hlanes : lanes = 0) (hzones : zones = 0) {t : State}
        {n : ClearTally} (hall : clearAll (seenOption == 1) rowSet (namedBits [zones]) (namedBits [lanes]) s = (t, n)) :
        exec command s = .next (t.answer tag 6 n.reply.1 n.reply.2) :=
      h.clear_exec tag hseen hrows (by rw [hlanes]; decide) (by rw [hzones]; decide) hall
    refine ⟨fun hbad => ?_, fun hseen hrows hlanes hzones => ?_, fun hseen h0 h1 h2 h3 hlanes hzones => ?_,
      fun r d q hseen hset hr hlanes hzones hd hq => ?_, fun r hseen hset hr hlanes hzones hd => ?_,
      fun r k i d e q x hseen hset hk hlanes hzones hd he hq hx hqphase hxphase hri hki => ?_⟩
    · refine h.clear_completes (takeClear_of_illegal ?_)
      rw [namedBits_any_row]
      exact hbad.imp_right (Or.imp_right (Or.imp (namedBits_any_beyond lanes).mpr (namedBits_any_beyond zones).mpr))
    · exact h.clear_exec tag hseen hrows hlanes hzones rfl
    · refine named hseen h3 hlanes hzones (t := s) (n := ClearTally.zero) ?_
      have hset : rowSet = [] := by
        simp only [rowSet, h0, h1, h2, h3]
        decide
      rw [hset, hlanes, hzones, namedBits_zero]
      rfl
    · have hrows : rows3 = 0 := exists_of (by simpa [hset] using hr)
      have done {t : State} {n : ClearTally} {result : ReplyResult} {data : ReplyData}
          (hrow : clearRow s (seenOption == 1) r (s, ClearTally.zero) = (t, n)) (hreply : n.reply = (result, data)) :
          exec command s = .next (t.answer tag 6 result data) := by
        have := named hseen hrows hlanes hzones ((one _ r hset hlanes hzones).trans hrow)
        rwa [hreply] at this
      obtain ⟨h1, h2, h3, h4⟩ := clearRow_cases (s := s) (n := ClearTally.zero) (seenGiven := seenOption == 1) hd hq
      rw [RowRuntime.named_eq] at h1 h2 h3 h4
      refine ⟨fun hphase hlatched => done (h1 hphase hlatched) rfl, fun hphase hlatched => done (h2 hphase hlatched) rfl,
        fun hphase hstays => done (h3 hphase hstays) rfl, fun i hphase hsource => ?_⟩
      refine ⟨_, done (h4 i hphase hsource) ?_, s.returnRow_frame d r i _, fun hquiet => ?_, fun halert => ?_⟩
      · simp [ClearTally.reply, ClearTally.zero, toNat_eq_ite]
      · have hnotices := s.returnRow_noticesOf d r i (q.named (seenOption == 1))
        rw [if_neg (by simp [hquiet]), RowRuntime.named_eq] at hnotices
        exact hnotices
      · have hnotices := s.returnRow_noticesOf d r i (q.named (seenOption == 1))
        rw [if_pos halert, RowRuntime.named_eq] at hnotices
        exact hnotices
    · have hrows : rows3 = 0 := exists_of (by simpa [hset] using hr)
      exact named hseen hrows hlanes hzones ((one _ r hset hlanes hzones).trans
        (clearRow_of_undefined (p := (s, ClearTally.zero)) (.inl hd)))
    · have hrk : r < k := by
        have hpairwise := namedBits_pairwise [rows0, rows1, rows2, rows3]
        rw [show namedBits [rows0, rows1, rows2, rows3] = [r, k] from hset] at hpairwise
        exact List.rel_of_pairwise_cons hpairwise List.mem_cons_self
      have hrows : rows3 = 0 := exists_of (by simpa [hset] using ⟨hrk.trans hk, hk⟩)
      have hfirst := (clearRow_cases (s := s) (n := ClearTally.zero) (seenGiven := seenOption == 1) hd hq).2.2.2 i hqphase hri
      have hframe := s.returnRow_frame d r i (q.named (seenOption == 1))
      have he' : (s.returnRow d r i (q.named (seenOption == 1))).activeSet.row k = some e := by rw [hframe]; exact he
      have hx' : (s.returnRow d r i (q.named (seenOption == 1))).rowRuntime k = some x := by
        rw [hframe, ← hx]
        simp [State.rowRuntime, List.getD_eq_getElem?_getD, List.getElem?_set_ne (Nat.ne_of_lt hrk)]
      have hsecond := (clearRow_cases (s := s) (n := ⟨[], [], q.latched.toNat, 1, 0⟩) (seenGiven := seenOption == 1)
        he' hx').2.2.2 i hxphase hki
      have hall : clearAll (seenOption == 1) rowSet (namedBits [zones]) (namedBits [lanes]) s =
          clearRow s (seenOption == 1) k (clearRow s (seenOption == 1) r (s, ClearTally.zero)) := by
        rw [hset, hlanes, hzones, namedBits_zero]
        rfl
      have hzero : clearRow s (seenOption == 1) r (s, ClearTally.zero) =
          (s.returnRow d r i (q.named (seenOption == 1)), ⟨[], [], q.latched.toNat, 1, 0⟩) := by
        rw [hfirst]
        simp [ClearTally.zero]
      have hexec := named hseen hrows hlanes hzones (hall.trans ((congrArg _ hzero).trans hsecond))
      obtain ⟨hframe2, hnotices2⟩ := s.returnRow_twice d e r k i (q.named (seenOption == 1)) (x.named (seenOption == 1))
      refine ⟨_, hexec.trans ?_, hframe2.trans ?_, hnotices2⟩
      · simp [ClearTally.reply, toNat_eq_ite]
      · simp only [RowRuntime.named_eq, RowRuntime.ended]
  · exact clearRow_of_undefined (p := (t, n)) hnone
  · obtain ⟨h1, h2, h3, h4⟩ := clearRow_cases (s := s) (n := n) (seenGiven := seenGiven) hd hq
    refine ⟨h1, h2, h3, fun i hphase hsource => ?_⟩
    have hnotices := t.returnRow_noticesOf d r i (q.named seenGiven)
    rw [h4 i hphase hsource]
    refine ⟨by rw [toNat_eq_ite], t.returnRow_frame d r i _, fun hquiet => ?_, fun halert => ?_⟩
    · rw [if_neg (by simp [hquiet])] at hnotices
      exact hnotices
    · rw [if_pos halert] at hnotices
      exact hnotices

end Sys2Proof.Machine

/-! PROOFS. CLEAR of one zone and of one lane. -/

namespace Sys2Proof.Machine

/-! ### Tallies add up -/

/-- What a CLEAR has found before and then finds (R171). -/
def ClearTally.join (n m : ClearTally) : ClearTally :=
  { stayedRows := n.stayedRows ++ m.stayedRows, stayedLanes := n.stayedLanes ++ m.stayedLanes
    unlatched := n.unlatched + m.unlatched, returned := n.returned + m.returned, unlocked := n.unlocked + m.unlocked }

theorem ClearTally.join_zero (n : ClearTally) : n.join ClearTally.zero = n := by
  simp [ClearTally.join, ClearTally.zero]

theorem ClearTally.join_unlocked (n m : ClearTally) (k : Nat) :
    { n.join m with unlocked := (n.join m).unlocked + k } = n.join { m with unlocked := m.unlocked + k } := by
  simp only [ClearTally.join, Nat.add_assoc]

theorem clearZoneLane_join (l : Nat) (t : State) (n m : ClearTally) :
    clearZoneLane l (t, n.join m) = ((clearZoneLane l (t, m)).1, n.join (clearZoneLane l (t, m)).2) := by
  unfold clearZoneLane
  dsimp only
  split
  · rw [ClearTally.join_unlocked]
  · rfl

theorem foldl_clearZoneLane_join (ls : List Nat) (t : State) (n m : ClearTally) :
    ls.foldl (fun q l => clearZoneLane l q) (t, n.join m) =
      ((ls.foldl (fun q l => clearZoneLane l q) (t, m)).1,
        n.join (ls.foldl (fun q l => clearZoneLane l q) (t, m)).2) := by
  induction ls generalizing t m with
  | nil => rfl
  | cons l ls ih =>
    rw [List.foldl_cons, List.foldl_cons, clearZoneLane_join, ih]

theorem clearZone_join (k : Nat) (t : State) (n : ClearTally) :
    clearZone k (t, n) = ((clearZone k (t, ClearTally.zero)).1, n.join (clearZone k (t, ClearTally.zero)).2) := by
  unfold clearZone
  dsimp only
  split
  · rw [n.join_zero]
  · split
    · have hfold := foldl_clearZoneLane_join
        (((t.setZone k ⟨.normal, 0, []⟩).queueNotice (zoneNotice k ⟨.normal, 0, []⟩ t.lastEvaluation)).activeSet.members
          ((t.setZone k ⟨.normal, 0, []⟩).queueNotice (zoneNotice k ⟨.normal, 0, []⟩ t.lastEvaluation)).siteRecord.lanes k)
        ((t.setZone k ⟨.normal, 0, []⟩).queueNotice (zoneNotice k ⟨.normal, 0, []⟩ t.lastEvaluation)) n ClearTally.zero
      rw [n.join_zero] at hfold
      exact hfold
    · rw [n.join_zero]

theorem clearLane_join (k : Nat) (t : State) (n : ClearTally) :
    clearLane k (t, n) = ((clearLane k (t, ClearTally.zero)).1, n.join (clearLane k (t, ClearTally.zero)).2) := by
  unfold clearLane
  dsimp only
  split
  · rw [n.join_zero]
  · split
    · rw [← ClearTally.join_unlocked, n.join_zero]
    · split
      · simp [ClearTally.join, ClearTally.zero]
      · split <;> rw [n.join_zero]

/-! ### What stays -/

theorem State.Ready.of_frame {s t : State} (h : s.Ready) (h1 : t.inReset = s.inReset) (h2 : t.evaluation = s.evaluation)
    (h3 : t.waiting = s.waiting) (h4 : t.commands = s.commands) (h5 : t.replies = s.replies) : t.Ready := by
  unfold State.Ready
  rw [h1, h2, h3, h4, h5]
  exact h

theorem State.Ready.changeLane {s : State} (h : s.Ready) (l : Nat) (v : Lane) : (s.changeLane l v).Ready := by
  refine h.of_frame ?_ ?_ ?_ ?_ ?_ <;> rw [State.changeLane_frame]

theorem clearZone_ready {t : State} (h : t.Ready) (k : Nat) (n : ClearTally) : (clearZone k (t, n)).1.Ready := by
  have hnotice (z : Zone) (m : Notice) : ((t.setZone k z).queueNotice m).Ready := by
    refine h.of_frame ?_ ?_ ?_ ?_ ?_ <;> rw [State.queueNotice_frame] <;> rfl
  unfold clearZone
  dsimp only
  split
  · exact h
  · split
    · refine foldl_keeps (Q := State.Ready) (f := fun q l => clearZoneLane l q) (fun q l hq => ?_) _ (hnotice _ _)
      unfold clearZoneLane
      dsimp only
      split
      · exact State.Ready.changeLane hq l _
      · exact hq
    · exact h.of_frame rfl rfl rfl rfl rfl

theorem clearLane_ready {t : State} (h : t.Ready) (k : Nat) (n : ClearTally) : (clearLane k (t, n)).1.Ready := by
  unfold clearLane
  dsimp only
  split
  · exact h
  · split
    · exact h.changeLane k _
    · split
      · exact h
      · split
        · exact h.of_frame rfl rfl rfl rfl rfl
        · exact h

/-! ### One lane -/

section
variable {s : State} {k : Nat} {n : ClearTally}

theorem clearLane_of_untouched (h : s.siteRecord.lanes ≤ k ∨ ((s.lane k).state ≠ .lockout ∧
    ((s.lane k).state ≠ .off ∨ (s.lane k).lockoutCause ≠ .probe))) : clearLane k (s, n) = (s, n) := by
  unfold clearLane
  dsimp only
  split_ifs with h1 h2 h3 h4
  · rfl
  · exact absurd h2.1 (h.resolve_left h1).1
  · exact absurd h3 (h.resolve_left h1).1
  · exact absurd h4 (not_and_or.mpr (h.resolve_left h1).2)
  · rfl

theorem clearLane_of_off (hk : k < s.siteRecord.lanes) (hstate : (s.lane k).state = .off)
    (hcause : (s.lane k).lockoutCause = .probe) :
    clearLane k (s, n) = (s.setLane k { s.lane k with lockoutCause := .none }, n) := by
  unfold clearLane
  dsimp only
  rw [if_neg (Nat.not_le.mpr hk), if_neg (by simp [hstate]), if_neg (by simp [hstate]), if_pos ⟨hstate, hcause⟩]

theorem clearLane_of_arc (hk : k < s.siteRecord.lanes) (hstate : (s.lane k).state = .lockout)
    (hcause : (s.lane k).lockoutCause = .arc) :
    clearLane k (s, n) = (s, { n with stayedLanes := n.stayedLanes ++ [k] }) := by
  unfold clearLane
  dsimp only
  rw [if_neg (Nat.not_le.mpr hk), if_neg (by simp [hcause]), if_pos hstate]

theorem clearLane_of_probe (hk : k < s.siteRecord.lanes) (hstate : (s.lane k).state = .lockout)
    (hcause : (s.lane k).lockoutCause = .probe) :
    clearLane k (s, n) = (s.changeLane k
      { (s.lane k).enterProbe s.activeSet.parameters.probeLength with lockoutCause := .none, retriesUsed := 0 },
      { n with unlocked := n.unlocked + 1 }) := by
  unfold clearLane
  dsimp only
  rw [if_neg (Nat.not_le.mpr hk), if_pos ⟨hstate, hcause⟩]

/-! ### One zone -/

theorem clearZone_of_beyond (hk : s.siteRecord.zones ≤ k) : clearZone k (s, n) = (s, n) := if_pos hk

theorem clearZone_of_unlocked (hk : k < s.siteRecord.zones) (hstate : (s.zone k).state ≠ .lockout) :
    clearZone k (s, n) = (s.setZone k { s.zone k with arcHistory := [] }, n) := by
  unfold clearZone
  dsimp only
  rw [if_neg (Nat.not_le.mpr hk), if_neg hstate]

end

/-- A lane record as a CLEAR of its zone leaves it (R115, R135). -/
def State.unlocked (s : State) (l : Nat) : Lane :=
  { (s.lane l).unlock s.activeSet.parameters.probeLength with
    stateEntrySweep := s.lastEvaluation, restriking := false }

/-- The notice of a lane that leaves LOCKOUT. -/
def State.unlockedNotice (s : State) (l : Nat) : Notice :=
  { subject := .lane l, state := .lane (if (s.lane l).onRequest then .probe else .off)
    value := .number (s.unlocked l).applied, sweep := s.lastEvaluation, changes := 1 }

/-- A lane in LOCKOUT with cause ARC, which a CLEAR of its zone unlocks. -/
def State.unlocks (s : State) (l : Nat) : Bool := (s.lane l).state == .lockout && (s.lane l).lockoutCause == .arc

/-- `t` is `s` with each lane of `ls` that was in LOCKOUT with cause ARC unlocked. -/
structure State.UnlockedAmong (s t : State) (ls : List Nat) : Prop where
  frame : t = { s with
    lanes := t.lanes, multipliers := t.multipliers, notices := t.notices, noticesDropped := t.noticesDropped
    droppedCount := t.droppedCount }
  lengths : t.lanes.length = s.lanes.length ∧ t.multipliers.length = s.multipliers.length
  unlocked : ∀ l, l ∈ ls → s.unlocks l = true → t.lane l = s.unlocked l ∧ t.multiplier l = multiplierOf (s.unlocked l).applied
  others : ∀ l, (l ∉ ls ∨ s.unlocks l = false) → t.lane l = s.lane l ∧ t.multiplier l = s.multiplier l
  notices : t.NoticesOf (s.queuing ((ls.filter s.unlocks).map s.unlockedNotice))

theorem State.unlocks_iff (s : State) (l : Nat) :
    s.unlocks l = true ↔ (s.lane l).state = .lockout ∧ (s.lane l).lockoutCause = .arc := by
  simp [State.unlocks]

theorem Lane.unlock_state (v : Lane) (n : Nat) : (v.unlock n).state = if v.onRequest then .probe else .off := by
  unfold Lane.unlock
  cases v.onRequest <;> simp [Lane.enterProbe]

theorem State.unlockedNotice_eq {s : State} {l : Nat} (h : s.unlocks l = true) :
    laneChangeNotice l (s.lane l).state (s.unlocked l) = some (s.unlockedNotice l) := by
  have hstate : (s.unlocked l).state = if (s.lane l).onRequest then .probe else .off := Lane.unlock_state _ _
  have hlockout : (s.lane l).state = .lockout := ((s.unlocks_iff l).mp h).1
  have hother : (s.unlocked l).state ≠ .lockout := by
    rw [hstate]
    split <;> simp
  rw [hlockout, laneChangeNotice_of_noticed (Ne.symm hother) (.inl rfl)]
  unfold laneNotice State.unlockedNotice
  rw [if_neg hother, hstate]
  rfl

/-- A lane that a CLEAR unlocks, with its multiplier and its notice. -/
theorem State.unlockLane_eq {s : State} {l : Nat} (h : s.unlocks l = true) :
    (s.unlockLane l).lanes = s.lanes.set l (s.unlocked l) ∧
    (s.unlockLane l).multipliers = s.multipliers.set l (multiplierOf (s.unlocked l).applied) ∧
    (s.unlockLane l).NoticesOf (s.queuing [s.unlockedNotice l]) := by
  have hlockout : (s.lane l).state = .lockout := ((s.unlocks_iff l).mp h).1
  have harriving : ((s.lane l).unlock s.activeSet.parameters.probeLength).arriving (s.lane l).state s.lastEvaluation =
      s.unlocked l := by
    refine Lane.arriving_of_other ?_ _
    rw [hlockout, Lane.unlock_state]
    split <;> simp
  have hlanes := s.changeLane_lanes l ((s.lane l).unlock s.activeSet.parameters.probeLength)
  have hmultipliers := s.changeLane_multipliers l ((s.lane l).unlock s.activeSet.parameters.probeLength)
  have hnotices := s.changeLane_noticesOf l ((s.lane l).unlock s.activeSet.parameters.probeLength)
  rw [harriving] at hlanes hnotices
  rw [State.unlockedNotice_eq h] at hnotices
  exact ⟨hlanes, hmultipliers, hnotices⟩

theorem State.UnlockedAmong.nil (s : State) : s.UnlockedAmong s [] where
  frame := rfl
  lengths := ⟨rfl, rfl⟩
  unlocked _ hl := absurd hl List.not_mem_nil
  others _ _ := ⟨rfl, rfl⟩
  notices := State.NoticesOf.refl s

theorem State.UnlockedAmong.snoc {s t : State} {ls : List Nat} (h : s.UnlockedAmong t ls) {l : Nat} (hl : l ∉ ls)
    (hlane : l < s.lanes.length) (hmultiplier : l < s.multipliers.length) (n : ClearTally) :
    s.UnlockedAmong (clearZoneLane l (t, n)).1 (ls ++ [l]) ∧
    (clearZoneLane l (t, n)).2 = { n with unlocked := n.unlocked + ([l].filter s.unlocks).length } := by
  obtain ⟨hsame, -⟩ := h.others l (.inl hl)
  have hunlocks : t.unlocks l = s.unlocks l := by simp only [State.unlocks, hsame]
  have hunlocked : t.unlocked l = s.unlocked l := by
    unfold State.unlocked
    rw [hsame, h.frame]
  have hnotice : t.unlockedNotice l = s.unlockedNotice l := by
    unfold State.unlockedNotice
    rw [hsame, hunlocked, h.frame]
  cases hu : s.unlocks l with
  | false =>
    have hstep : clearZoneLane l (t, n) = (t, n) := by
      refine if_neg ?_
      rw [← State.unlocks_iff t l, hunlocks, hu]
      exact Bool.false_ne_true
    have hfilter : [l].filter s.unlocks = [] := by simp [hu]
    rw [hstep, hfilter]
    refine ⟨⟨h.frame, h.lengths, fun k hk hku => h.unlocked k ?_ hku, fun k hk => h.others k ?_, ?_⟩, rfl⟩
    · refine (List.mem_append.mp hk).resolve_right fun hk => ?_
      rw [List.mem_singleton.mp hk, hu] at hku
      cases hku
    · exact hk.imp_left fun hk hmem => hk (List.mem_append_left [l] hmem)
    · rw [List.filter_append, hfilter, List.append_nil]
      exact h.notices
  | true =>
    have hstep : clearZoneLane l (t, n) = (t.unlockLane l, { n with unlocked := n.unlocked + 1 }) := by
      refine if_pos ?_
      rw [← State.unlocks_iff t l, hunlocks, hu]
    have hfilter : [l].filter s.unlocks = [l] := by simp [hu]
    obtain ⟨hlanes, hmultipliers, hnotices⟩ := State.unlockLane_eq (hunlocks.trans hu)
    rw [hunlocked] at hlanes hmultipliers
    rw [hnotice] at hnotices
    rw [hstep, hfilter]
    refine ⟨⟨?_, ?_, fun k hk hku => ?_, fun k hk => ?_, ?_⟩, rfl⟩
    · have hframe := t.changeLane_frame l ((t.lane l).unlock t.activeSet.parameters.probeLength)
      dsimp only [State.unlockLane]
      refine hframe.trans ?_
      rw [hframe]
      dsimp only
      rw [h.frame]
    · rw [hlanes, hmultipliers, List.length_set, List.length_set]
      exact h.lengths
    · by_cases hkl : k = l
      · rw [hkl]
        exact ⟨State.lane_of_set hlanes (h.lengths.1 ▸ hlane), State.multiplier_of_set hmultipliers (h.lengths.2 ▸ hmultiplier)⟩
      · have hk' : k ∈ ls := (List.mem_append.mp hk).resolve_right (by simpa using hkl)
        rw [State.lane_of_set_ne hlanes (Ne.symm hkl), State.multiplier_of_set_ne hmultipliers (Ne.symm hkl)]
        exact h.unlocked k hk' hku
    · have hkl : k ≠ l := by
        rintro rfl
        rcases hk with hk | hk
        · exact hk (List.mem_append_right ls List.mem_cons_self)
        · rw [hu] at hk
          cases hk
      rw [State.lane_of_set_ne hlanes (Ne.symm hkl), State.multiplier_of_set_ne hmultipliers (Ne.symm hkl)]
      exact h.others k (hk.imp_left fun hk hmem => hk (List.mem_append_left [l] hmem))
    · rw [List.filter_append, hfilter, List.map_append, State.queuing_append]
      exact hnotices.trans (h.notices.queuing _)

/-- A cleared zone's members in LOCKOUT with cause ARC are unlocked, each once. -/
theorem State.unlockedAmong_foldl (s : State) (n : ClearTally) (ls : List Nat) (hnodup : ls.Nodup)
    (hlanes : ∀ l ∈ ls, l < s.lanes.length) (hmultipliers : ∀ l ∈ ls, l < s.multipliers.length) :
    s.UnlockedAmong (ls.foldl (fun q l => clearZoneLane l q) (s, n)).1 ls ∧
    (ls.foldl (fun q l => clearZoneLane l q) (s, n)).2 =
      { n with unlocked := n.unlocked + (ls.filter s.unlocks).length } := by
  induction ls using List.reverseRecOn with
  | nil => exact ⟨State.UnlockedAmong.nil s, rfl⟩
  | append_singleton ls l ih =>
    obtain ⟨hls, -, hdisjoint⟩ := List.nodup_append.mp hnodup
    have hl : l ∉ ls := fun hmem => hdisjoint l hmem l List.mem_cons_self rfl
    obtain ⟨h, htally⟩ := ih hls (fun k hk => hlanes k (List.mem_append_left [l] hk))
      (fun k hk => hmultipliers k (List.mem_append_left [l] hk))
    have hmem : l ∈ ls ++ [l] := List.mem_append_right ls List.mem_cons_self
    rw [List.foldl_append, List.foldl_cons, List.foldl_nil]
    obtain ⟨hsnoc, htally'⟩ := h.snoc hl (hlanes l hmem) (hmultipliers l hmem)
      (ls.foldl (fun q l => clearZoneLane l q) (s, n)).2
    refine ⟨hsnoc, htally'.trans ?_⟩
    rw [htally, List.filter_append, List.length_append]
    simp only [Nat.add_assoc]

/-! ### A zone that leaves LOCKOUT -/

/-- A zone in LOCKOUT as a CLEAR leaves it, with its notice. -/
def State.clearedZone (s : State) (k : Nat) : State :=
  (s.setZone k { state := .normal, blankRemaining := 0, arcHistory := [] }).queueNotice
    { subject := .zone k, state := .zone .normal, value := .number 0, sweep := s.lastEvaluation, changes := 1 }

theorem State.clearedZone_frame (s : State) (k : Nat) : s.clearedZone k =
    { s with
      zones := s.zones.set k { state := .normal, blankRemaining := 0, arcHistory := [] }
      notices := (s.clearedZone k).notices, noticesDropped := (s.clearedZone k).noticesDropped
      droppedCount := (s.clearedZone k).droppedCount } :=
  State.queueNotice_frame (s.setZone k { state := .normal, blankRemaining := 0, arcHistory := [] }) _

/-- The members of zone `k` that its CLEAR unlocks, ascending. -/
def State.lockedMembers (s : State) (k : Nat) : List Nat :=
  (s.activeSet.members s.siteRecord.lanes k).filter s.unlocks

theorem State.mem_lockedMembers {s : State} {k l : Nat} : l ∈ s.lockedMembers k ↔
    l < s.siteRecord.lanes ∧ s.activeSet.zoneOf l = some k ∧ (s.lane l).state = .lockout ∧
      (s.lane l).lockoutCause = .arc := by
  simp only [State.lockedMembers, TableSet.members, List.mem_filter, List.mem_range, TableSet.isMember, State.unlocks_iff,
    Bool.and_eq_true, decide_eq_true_eq, beq_iff_eq]
  grind

/-- A CLEAR of a zone in LOCKOUT: what it does to the zone, to every lane and to the notice queue, and what it counts. -/
theorem clearZone_of_lockout {s : State} {k : Nat} (hk : k < s.siteRecord.zones) (hstate : (s.zone k).state = .lockout)
    (hL : s.siteRecord.lanes ≤ laneCount) (hlanes : s.lanes.length = laneCount)
    (hmultipliers : s.multipliers.length = laneCount) :
    ∃ t : State, clearZone k (s, ClearTally.zero) = (t, ⟨[], [], 0, 0, (s.lockedMembers k).length⟩) ∧
      t = { s with
        zones := s.zones.set k { state := .normal, blankRemaining := 0, arcHistory := [] }
        lanes := t.lanes, multipliers := t.multipliers, notices := t.notices
        noticesDropped := t.noticesDropped, droppedCount := t.droppedCount } ∧
      (∀ l, l ∈ s.lockedMembers k → t.lane l = s.unlocked l ∧ t.multiplier l = multiplierOf (s.unlocked l).applied) ∧
      (∀ l, l ∉ s.lockedMembers k → t.lane l = s.lane l ∧ t.multiplier l = s.multiplier l) ∧
      t.NoticesOf (s.queuing
        ({ subject := .zone k, state := .zone .normal, value := .number 0, sweep := s.lastEvaluation, changes := 1 } ::
          (s.lockedMembers k).map s.unlockedNotice)) := by
  have hframe := s.clearedZone_frame k
  have hlane (l : Nat) : (s.clearedZone k).lane l = s.lane l := by rw [hframe]; rfl
  have hmultiplier (l : Nat) : (s.clearedZone k).multiplier l = s.multiplier l := by rw [hframe]; rfl
  have hunlocks : (s.clearedZone k).unlocks = s.unlocks := by
    funext l
    simp only [State.unlocks, hlane]
  have hunlocked (l : Nat) : (s.clearedZone k).unlocked l = s.unlocked l := by
    unfold State.unlocked
    rw [hlane, hframe]
  have hnotice : (s.clearedZone k).unlockedNotice = s.unlockedNotice := by
    funext l
    unfold State.unlockedNotice
    rw [hlane, hunlocked, hframe]
  have hmember {l : Nat} (hl : l ∈ s.activeSet.members s.siteRecord.lanes k) : l < laneCount :=
    Nat.lt_of_lt_of_le (List.mem_range.mp (List.mem_filter.mp hl).1) hL
  obtain ⟨h, htally⟩ := (s.clearedZone k).unlockedAmong_foldl ClearTally.zero (s.activeSet.members s.siteRecord.lanes k)
    (List.nodup_range.filter _) (fun l hl => by rw [hframe]; exact hlanes ▸ hmember hl)
    (fun l hl => by rw [hframe]; exact hmultipliers ▸ hmember hl)
  have hzone : clearZone k (s, ClearTally.zero) =
      (s.activeSet.members s.siteRecord.lanes k).foldl (fun q l => clearZoneLane l q) (s.clearedZone k, ClearTally.zero) := by
    unfold clearZone
    dsimp only
    rw [if_neg (Nat.not_le.mpr hk), if_pos hstate]
    have hcleared : (s.setZone k ⟨.normal, 0, []⟩).queueNotice (zoneNotice k ⟨.normal, 0, []⟩ s.lastEvaluation) =
      s.clearedZone k := rfl
    have htables : (s.clearedZone k).activeSet = s.activeSet := by rw [hframe]
    have hrecord : (s.clearedZone k).siteRecord = s.siteRecord := by rw [hframe]
    rw [hcleared, htables, hrecord]
  generalize (s.activeSet.members s.siteRecord.lanes k).foldl (fun q l => clearZoneLane l q)
    (s.clearedZone k, ClearTally.zero) = p at h htally hzone
  refine ⟨p.1, hzone.trans (Prod.ext rfl (htally.trans ?_)), ?_, fun l hl => ?_, fun l hl => ?_, ?_⟩
  · rw [hunlocks]
    simp [ClearTally.zero, State.lockedMembers]
  · refine h.frame.trans ?_
    rw [hframe]
  · obtain ⟨hmem, hu⟩ := List.mem_filter.mp hl
    have := h.unlocked l hmem (hunlocks ▸ hu)
    rwa [hunlocked] at this
  · have := h.others l (by
      rw [hunlocks]
      by_contra hboth
      obtain ⟨h1, h2⟩ := not_or.mp hboth
      exact hl (List.mem_filter.mpr ⟨not_not.mp h1, by simpa using h2⟩))
    rwa [hlane, hmultiplier] at this
  · have hnotices := h.notices
    rw [hunlocks, hnotice] at hnotices
    refine hnotices.trans (State.NoticesOf.queuing
      (t := s.queuing [{ subject := .zone k, state := .zone .normal, value := .number 0, sweep := s.lastEvaluation
                         changes := 1 }]) ?_ _)
    exact State.NoticesOf.queuing (s := s.setZone k _) (t := s) ⟨rfl, rfl, rfl⟩ [_]

/-- Settles O55. -/
theorem clearOfOneZoneOrLane : Obligations.ClearOfOneZoneOrLane := by
  unfold Obligations.ClearOfOneZoneOrLane
  refine ⟨fun t n k => ⟨clearZone_join k t n, clearLane_join k t n, fun h => ⟨clearZone_ready h k _, clearLane_ready h k _⟩⟩,
    fun s tag k h hk hlanes hmultipliers hzones hL hZ => ?_⟩
  intro bit
  have hbit : namedBits [bit] = [k] := namedBits_bit (by omega)
  have hsmall (j : Nat) (hj : j < 8) : (BitVec.ofNat 16 (2 ^ j)).toNat < 256 := by interval_cases j <;> decide
  have hnone : namedBits [0, 0, 0, 0] = [] := by decide
  have zone {t : State} {n : ClearTally} {result : ReplyResult} {data : ReplyData}
      (hzone : clearZone k (s, ClearTally.zero) = (t, n)) (hreply : n.reply = (result, data)) :
      exec (.clear tag 0 0 0 0 0 0 bit) s = .next (t.answer tag 6 result data) := by
    have := h.clear_exec tag (seenOption := 0) (r0 := 0) (r1 := 0) (r2 := 0) (lanes := 0) (zones := bit) (by decide) rfl
      (by decide) (hsmall k hk) (t := t) (n := n) (by rw [hbit, hnone, namedBits_zero]; exact hzone)
    rwa [hreply] at this
  have lane {t : State} {n : ClearTally} {result : ReplyResult} {data : ReplyData}
      (hlane : clearLane k (s, ClearTally.zero) = (t, n)) (hreply : n.reply = (result, data)) :
      exec (.clear tag 0 0 0 0 0 bit 0) s = .next (t.answer tag 6 result data) := by
    have := h.clear_exec tag (seenOption := 0) (r0 := 0) (r1 := 0) (r2 := 0) (lanes := bit) (zones := 0) (by decide) rfl
      (hsmall k hk) (by decide) (t := t) (n := n) (by rw [hbit, hnone, namedBits_zero]; exact hlane)
    rwa [hreply] at this
  refine ⟨fun hkZ hstate => zone (clearZone_of_unlocked hkZ hstate) rfl, fun hkZ hstate => ?_,
    fun hkZ => zone (clearZone_of_beyond hkZ) rfl, fun m hkZ hstate hmL hmzone hmstate hmcause => ?_,
    fun huntouched => lane (clearLane_of_untouched huntouched) rfl,
    fun hkL hstate hcause => lane (clearLane_of_off hkL hstate hcause) rfl,
    fun hkL hstate => ⟨fun hcause => lane (clearLane_of_arc hkL hstate hcause) rfl, fun hcause => ?_⟩⟩
  · obtain ⟨t, hzone, hframe, hunlocked, hothers, hnotices⟩ := clearZone_of_lockout hkZ hstate hL hlanes hmultipliers
    have hzones : t.zones = s.zones.set k { state := .normal, blankRemaining := 0, arcHistory := [] } := by rw [hframe]
    refine ⟨t, _, zone hzone rfl, hzones, fun l hl => ?_, fun unlocked hpairwise hmem => ?_, hframe.trans (by rw [hzones])⟩
    · intro v
      by_cases hmem : l ∈ s.lockedMembers k
      · obtain ⟨h1, h2⟩ := hunlocked l hmem
        rw [if_pos (State.mem_lockedMembers.mp hmem), h1, h2]
        refine ⟨fun hon => ?_, fun hoff => ?_⟩
        · have hunlock : s.unlocked l = { v with
              state := .probe, lockoutCause := .none, retriesUsed := 0, probeOwed := false
              probeRemaining := s.activeSet.parameters.probeLength, target := 0, applied := 0
              stateEntrySweep := s.lastEvaluation, restriking := false } := by
            simp [State.unlocked, Lane.unlock, Lane.enterProbe, v, (hon : (s.lane l).onRequest = true)]
          rw [hunlock]
          exact ⟨multiplierOf_zero, rfl⟩
        · have hunlock : s.unlocked l = { v with
              state := .off, lockoutCause := .none, stateEntrySweep := s.lastEvaluation, restriking := false } := by
            simp [State.unlocked, Lane.unlock, v, (hoff : (s.lane l).onRequest = false)]
          rw [hunlock]
          exact ⟨rfl, rfl⟩
      · rw [if_neg (mt State.mem_lockedMembers.mpr hmem)]
        exact hothers l hmem
    · have hlist : unlocked = s.lockedMembers k := by
        have hmembers (l : Nat) : l ∈ s.lockedMembers k ↔ l < laneCount ∧ decide (l ∈ s.lockedMembers k) = true := by
          rw [decide_eq_true_eq]
          exact ⟨fun hl => ⟨Nat.lt_of_lt_of_le (State.mem_lockedMembers.mp hl).1 hL, hl⟩, fun hl => hl.2⟩
        have hascends : (s.lockedMembers k).Pairwise (· < ·) := (List.pairwise_lt_range.filter _).filter _
        refine (ascending_eq_filter hpairwise fun l => ?_).trans (ascending_eq_filter hascends hmembers).symm
        rw [hmem, decide_eq_true_eq, State.mem_lockedMembers]
      refine ⟨by rw [hlist], ?_⟩
      rw [hlist]
      have hmap : (s.lockedMembers k).map s.unlockedNotice = (s.lockedMembers k).map fun l =>
          { subject := .lane l, state := .lane (if (s.lane l).onRequest then .probe else .off)
            value := .number (t.lane l).applied, sweep := s.lastEvaluation, changes := 1 } :=
        List.map_congr_left fun l hl => by rw [(hunlocked l hl).1]; rfl
      rw [← hmap]
      exact hnotices
  · obtain ⟨t, hzone, hframe, hunlocked, hothers, hnotices⟩ := clearZone_of_lockout hkZ hstate hL hlanes hmultipliers
    have hm8 : m < 8 := Nat.lt_of_lt_of_le hmL hL
    have hmember : m ∈ s.lockedMembers k := State.mem_lockedMembers.mpr ⟨hmL, hmzone, hmstate, hmcause⟩
    have hlane : clearLane m (t, ⟨[], [], 0, 0, (s.lockedMembers k).length⟩) =
        (t, ⟨[], [], 0, 0, (s.lockedMembers k).length⟩) := by
      refine clearLane_of_untouched (.inr ?_)
      rw [(hunlocked m hmember).1]
      have hcause : (s.unlocked m).lockoutCause = .none := by
        unfold State.unlocked Lane.unlock
        cases (s.lane m).onRequest <;> rfl
      have hunlock : (s.unlocked m).state ≠ .lockout := by
        have : (s.unlocked m).state = if (s.lane m).onRequest then .probe else .off := Lane.unlock_state _ _
        rw [this]
        split <;> simp
      exact ⟨hunlock, .inr (by simp [hcause])⟩
    have hboth := h.clear_exec tag (seenOption := 0) (r0 := 0) (r1 := 0) (r2 := 0) (lanes := BitVec.ofNat 16 (2 ^ m))
      (zones := bit) (by decide) rfl (hsmall m hm8) (hsmall k hk)
      (t := t) (n := ⟨[], [], 0, 0, (s.lockedMembers k).length⟩) (by
        rw [hbit, hnone, namedBits_bit (by omega)]
        exact (congrArg (clearLane m) hzone).trans hlane)
    exact hboth.trans (zone hzone rfl).symm
  · have hchange := clearLane_of_probe (n := ClearTally.zero) hkL hstate hcause
    have hother : (s.lane k).state ≠ LaneState.probe := by simp [hstate]
    generalize hw : { (s.lane k).enterProbe s.activeSet.parameters.probeLength with
      lockoutCause := LockoutCause.none, retriesUsed := 0 } = w at hchange
    have hwstate : w.state = .probe := by rw [← hw]; rfl
    have hsilent : multiplierOf w.applied = 0 := by rw [← hw]; exact multiplierOf_zero
    have harriving : w.arriving (s.lane k).state s.lastEvaluation = { s.lane k with
        state := .probe, lockoutCause := .none, retriesUsed := 0, probeOwed := false
        probeRemaining := s.activeSet.parameters.probeLength, target := 0, applied := 0
        stateEntrySweep := s.lastEvaluation, restriking := false } := by
      rw [Lane.arriving_of_other (by rw [hwstate]; exact hother), ← hw]
      rfl
    have hframe := s.changeLane_frame k w
    have hnotices := s.changeLane_noticesOf k w
    rw [harriving] at hframe hnotices
    rw [hsilent] at hframe
    rw [laneChangeNotice_of_noticed hother (.inl (by rw [hstate]; rfl))] at hnotices
    exact ⟨_, lane hchange rfl, hframe, hnotices⟩

end Sys2Proof.Machine

/-! PROOFS. What a return boundary sends, and the words of every return frame. -/

namespace Sys2Proof.Machine

/-! ### The pick -/

theorem exec_returnFrameBoundary {s : State} (h : s.inReset = false) {item : ReturnItem} (hitem : s.pickReturn = item) :
    exec .returnFrameBoundary s = .next { s.removeReturn item with
      returnPort := some (returnFrame s.draws s.siteSummary item), draws := s.draws + 1 } := by
  rw [← hitem]
  exact congrArg Host.Outcome.next (State.unlessReset_of_running h _)

theorem State.pickReturn_of_notice {s : State} {n : Notice} {rest : List Notice} (h : s.notices = n :: rest) :
    s.pickReturn = .notice n := by
  unfold State.pickReturn
  rw [h]

theorem State.pickReturn_of_reply {s : State} (h : s.notices = []) {item : ReturnItem} (hreply : s.nextReply = some item) :
    s.pickReturn = item := by
  unfold State.pickReturn
  rw [h, hreply]

theorem State.nextReply_of_refusal {s : State} {r : Refused} (hr : s.refusal = some r) (h : r.ahead = 0 ∨ s.replies = []) :
    s.nextReply = some (.refusal r) := by
  unfold State.nextReply
  rw [hr]
  cases hq : s.replies with
  | nil => rfl
  | cons q rest => exact if_pos (h.resolve_right (by simp [hq]))

theorem State.nextReply_of_oldest {s : State} {q : Reply} {rest : List Reply} (hq : s.replies = q :: rest)
    (h : ∀ r, s.refusal = some r → 0 < r.ahead) : s.nextReply = some (.reply q) := by
  unfold State.nextReply
  rw [hq]
  cases hr : s.refusal with
  | none => rfl
  | some r => exact if_neg (Nat.ne_of_gt (h r hr))

theorem State.pickReturn_of_idle {s : State} (h : s.notices = []) (hreplies : s.replies = []) (hrefusal : s.refusal = none) :
    s.pickReturn = match s.snapshot with
      | some p => if s.reportHold then .filler else .snapshot p
      | none => .filler := by
  have hnone : s.nextReply = none := by
    unfold State.nextReply
    rw [hrefusal, hreplies]
  unfold State.pickReturn
  rw [h, hnone] <;> rfl

/-! ### The words of a notice, a refusal and a snapshot -/

theorem noticePayload_words (n : Notice) :
    let kindAndSubject : List Word := match n.subject with
      | .row r => [0, word r]
      | .lane l => [1, word l]
      | .zone z => [2, word z]
      | .senseBlind => [3, 0]
      | .arcLineStuck => [3, 1]
      | .headLost k => [3, word (16 + k)]
      | .spuriousArc => [4, 0]
    let newState : List Word := match n.state with
      | .row phase latched => [word phase.code, flag latched]
      | .lane state => [word state.code, 0]
      | .zone state => [word state.code, 0]
      | .raised => [1, 0]
      | .released => [0, 0]
      | .spurious => [0, 0]
    let value : List Word := match n.value with
      | .none => [0xFFFF, 0xFFFF]
      | .number v => words32 v
      | .cause c => [0, word c.code]
    n.payload = kindAndSubject ++ newState ++ value ++ words32 n.sweep.toNat ++ [word n.changes] ++
      List.replicate 55 0 := by
  intro kindAndSubject newState value
  have hsubject : n.subject.words = kindAndSubject := by
    simp only [kindAndSubject]
    cases n.subject <;> rfl
  have hstate : n.state.words = newState := by
    simp only [newState]
    cases n.state <;> rfl
  have hvalue : n.value.words = value := by
    simp only [value]
    cases n.value with
    | cause c => cases c <;> rfl
    | none => rfl
    | number v => rfl
  have hlength : (n.subject.words ++ n.state.words ++ n.value.words ++ words32 n.sweep.toNat ++ [word n.changes]).length = 9 := by
    have h1 : n.subject.words.length = 2 := by cases n.subject <;> rfl
    have h2 : n.state.words.length = 2 := by cases n.state <;> rfl
    have h3 : n.value.words.length = 2 := by cases n.value <;> rfl
    simp [h1, h2, h3, words32]
  unfold Notice.payload
  rw [payloadOf_eq _ 55 (by rw [hlength]), hsubject, hstate, hvalue]

theorem refusedPayload_words (r : Refused) :
    r.payload = [0xFFFF, 2, word r.count] ++ ((List.range 16).map fun w => r.tags.extractLsb' (16 * w) 16) ++
      List.replicate 45 0 := by
  have htags (w : Nat) : (r.tags >>> (16 * w)).setWidth 16 = r.tags.extractLsb' (16 * w) 16 := by
    apply BitVec.eq_of_getLsbD_eq
    intro i hi
    simp [hi]
  unfold Refused.payload
  rw [payloadOf_eq _ 45 (by simp)]
  simp only [htags]
  rfl

theorem measurementWords_eq (m : Option Measurement) : measurementWords m = match m with
    | none => [0xFFFF, 0xFFFF]
    | some m => [match m.value with
        | some v => word v
        | none => 0xFFFF, word m.state.code] := by
  rcases m with _ | ⟨_ | _, _⟩ <;> rfl

theorem snapshotPayload_words (p : Snapshot) (h : p.lanes.length = 8) :
    let measured : Option Measurement → List Word := fun m => match m with
      | none => [0xFFFF, 0xFFFF]
      | some m => [match m.value with
          | some v => word v
          | none => 0xFFFF, word m.state.code]
    p.payload = words32 p.sweep.toNat ++
      (p.lanes.flatMap fun x => word x.state.code :: words32 x.applied ++ measured x.forward ++ measured x.ratio) ++
      List.replicate 6 0 := by
  intro measured
  have hmeasured (m : Option Measurement) : measurementWords m = measured m := measurementWords_eq m
  have hlane : (fun x : SnapshotLane => word x.state.code :: words32 x.applied ++ measured x.forward ++ measured x.ratio) =
      SnapshotLane.words := by
    funext x
    simp only [SnapshotLane.words, ← hmeasured, List.cons_append, List.nil_append]
  have hseven (x : SnapshotLane) : x.words.length = 7 := by
    have hm (m : Option Measurement) : (measurementWords m).length = 2 := by cases m <;> rfl
    simp [SnapshotLane.words, hm, words32]
  have hlength : (words32 p.sweep.toNat ++ p.lanes.flatMap SnapshotLane.words).length = 58 := by
    simp [List.length_flatMap, hseven, h, words32]
  unfold Snapshot.payload
  rw [payloadOf_eq _ 6 (by rw [hlength]), hlane]

/-! ### The words of a reply -/

theorem replyPayload_words (q : Reply) (draws : Nat) (h : q.data.words.length ≤ 62) :
    q.payload draws = q.kind :: word q.result.code :: q.data.words ++ List.replicate (62 - q.data.words.length) 0 := by
  have hroom : q.data.words.length ≤ replyDataRoom := h
  unfold Reply.payload
  rw [if_pos hroom, payloadOf_eq _ (62 - q.data.words.length) (by simp; omega)]

theorem replyData_words (d : ReplyData) :
    let entry (fields : Option (List Word)) : List Word := match fields with
      | some ws => 1 :: ws
      | none => [0]
    d.words = match d with
      | .empty => []
      | .loaded part index => [part, index]
      | .activated sweep deferrals => words32 sweep.toNat ++ [word deferrals]
      | .activationRefused rows lanes => [flag (0 < rows), flag (0 < lanes), word rows, word lanes]
      | .activationAbandoned .blank => [0]
      | .activationAbandoned .latched => [1]
      | .activationAbandoned .lockout => [2]
      | .inconsistent code item => [word code, word item]
      | .siteInForce r => r.words
      | .laneInForce state on mode setpoint => [word state.code, flag on, word mode.code, word setpoint]
      | .cleared rows lanes unlatched returned unlocked =>
        setWords 4 rows ++ setWords 1 lanes ++ [word unlatched, word returned, word unlocked]
      | .lane plan v causes =>
        entry (plan.map LanePlan.words) ++
        [word v.state.code, flag v.onRequest, word v.mode.code, word v.setpoint, word v.ceiling] ++ words32 v.demand ++
        words32 v.grant ++ [word v.budgetCeiling] ++ words32 v.target ++ words32 v.applied ++
        [word v.probeRemaining, word v.retriesUsed, word v.lockoutCause.code, word causes.length] ++
        (causes.map fun c => match c with
          | .row r => word r
          | .inhibit => 48
          | .linkLoss => 49
          | .blindMute => 50) ++
        [flag v.muteInvolvedLatch, flag v.probeOwed, flag v.firstTurnOnDone] ++ words32 v.stateEntrySweep.toNat
      | .zone v members =>
        [word v.state.code, word v.blankRemaining, word v.arcHistory.length] ++
        (v.arcHistory.flatMap fun e => words32 e.toNat) ++ setWords 1 members
      | .row none _ => [0]
      | .row (some (e, q)) effective =>
        1 :: e.words ++ [word q.phase.code, word q.progress, flag q.latched, flag q.seen] ++
        words32OrNone (q.firstSweep.map (·.toNat)) ++
        [word q.assertions, wordOrNone q.extreme, flag effective, wordOrNone q.ceilingInForce]
      | .point none => [0]
      | .point (some (e, p)) =>
        1 :: e.words ++ [word p.state.code, wordOrNone p.value, flag p.overRange, flag p.noisy]
      | .curve found => entry (found.map curveWords)
      | .head found reported stale lost =>
        entry (found.map HeadEntry.words) ++ (match reported with
          | some m => [word m.mode.code, word m.quadInput]
          | none => [0xFFFF, 0xFFFF]) ++ [word stale, flag lost]
      | .siteRecord r phase waits b =>
        r.words ++ [word phase.code, flag waits, word b.value] ++ words32 b.siteBudget ++ words32 b.demandSum ++
        [flag b.short] ++ words32 b.unassigned
      | .parameters p => p.words
      | .pendingEntry (.point e) => entry (e.map PointEntry.words)
      | .pendingEntry (.head e) => entry (e.map HeadEntry.words)
      | .pendingEntry (.curve e) => entry (e.map curveWords)
      | .pendingEntry (.row e) => entry (e.map RowEntry.words)
      | .pendingEntry (.zone e) => entry (e.map ZoneEntry.words)
      | .pendingEntry (.lane e) => entry (e.map LanePlan.words)
      | .pendingEntry (.parameters p) => p.words
      | .linkStatistics x => words32 x.framesTaken ++ words32 x.checkFailures ++ words32 x.unknownLane
      | .sweepStatistics x =>
        words32 x.launched ++ words32 x.timeouts ++ words32 x.frameChecks ++ words32 x.headerMismatches ++
        words32 x.countMismatches ++ words32 x.late
      | .alertSet a dropped droppedCount queueLength =>
        setWords 4 a.rows ++ setWords 1 a.lanes ++ setWords 1 a.headLost ++
        [flag a.senseBlind, flag a.linkLoss, flag a.inhibit, flag a.arcLineStuck, flag dropped, word droppedCount,
          word queueLength]
      | .restarted sweep => words32 sweep.toNat := by
  intro entry
  have hentry {α : Type} (fields : α → List Word) (e : Option α) : entryWords fields e = entry (e.map fields) := by
    cases e <;> rfl
  have hcauses (causes : List MuteCause) : causes.map (fun c => word c.code) = causes.map fun c => match c with
      | .row r => word r
      | .inhibit => 48
      | .linkLoss => 49
      | .blindMute => 50 :=
    List.map_congr_left fun c _ => by cases c <;> rfl
  cases d with
  | activationAbandoned b => cases b <;> rfl
  | lane plan v causes =>
    simp only [ReplyData.words, Lane.words, Lane.leadingWords, hentry, hcauses, List.append_assoc, List.cons_append,
      List.nil_append]
  | row found effective =>
    rcases found with _ | ⟨e, q⟩
    · rfl
    · simp only [ReplyData.words, entryWords, RowRuntime.words, List.append_assoc, List.cons_append, List.nil_append] <;> rfl
  | point found =>
    rcases found with _ | ⟨e, p⟩ <;> rfl
  | curve found => exact hentry _ _
  | head found reported stale lost =>
    simp only [ReplyData.words, hentry]
    cases reported <;> rfl
  | siteRecord r phase waits b => simp only [ReplyData.words, Budget.words, List.append_assoc, List.cons_append, List.nil_append]
  | pendingEntry e =>
    cases e with
    | parameters p => rfl
    | _ => exact hentry _ _
  | _ => rfl

/-- However long a lane's list of mute causes is, the words before it stand in their places of the payload. -/
theorem replyPayload_leading (q : Reply) (draws : Nat) {rest : List Word}
    (hwords : q.data.words = q.data.leadingWords ++ rest) (hshort : q.data.leadingWords.length ≤ 62) :
    (q.payload draws).length = 64 ∧ (q.payload draws).take (2 + q.data.leadingWords.length) =
      q.kind :: word q.result.code :: q.data.leadingWords := by
  by_cases hroom : q.data.words.length ≤ 62
  · rw [replyPayload_words q draws hroom]
    constructor
    · simp
      omega
    · rw [hwords]
      simp [Nat.add_comm 2]
  · have hcut : (q.data.cutWords draws).take q.data.leadingWords.length = q.data.leadingWords := by
      apply List.ext_getElem
      · simp [ReplyData.cutWords, replyDataRoom]
        exact hshort
      · intro i h1 h2
        simp [ReplyData.cutWords, List.getElem?_eq_getElem h2]
    have hpayload : q.payload draws = q.kind :: word q.result.code :: q.data.cutWords draws := if_neg hroom
    rw [hpayload]
    constructor
    · simp [ReplyData.cutWords, replyDataRoom]
    · rw [Nat.add_comm 2, List.take_succ_cons, List.take_succ_cons, hcut]

theorem laneReply_leading (q : Reply) (draws : Nat) (plan : Option LanePlan) (v : Lane) (causes : List MuteCause) :
    q.data = .lane plan v causes →
    let leading : List Word :=
      (match plan with
        | some p => 1 :: p.words
        | none => [0]) ++
      [word v.state.code, flag v.onRequest, word v.mode.code, word v.setpoint, word v.ceiling] ++ words32 v.demand ++
      words32 v.grant ++ [word v.budgetCeiling] ++ words32 v.target ++ words32 v.applied ++
      [word v.probeRemaining, word v.retriesUsed, word v.lockoutCause.code]
    (q.payload draws).length = 64 ∧
      (q.payload draws).take (2 + leading.length) = q.kind :: word q.result.code :: leading := by
  have hplan : entryWords LanePlan.words plan = match plan with
      | some p => 1 :: p.words
      | none => [0] := by
    cases plan <;> rfl
  intro h leading
  have hleading : q.data.leadingWords = leading := by
    rw [h]
    simp only [ReplyData.leadingWords, Lane.leadingWords, hplan, leading, List.append_assoc]
  have hshort : q.data.leadingWords.length ≤ 62 := by
    have hbudget (b : BudgetClass) : b.words.length = 2 := by cases b <;> rfl
    rw [h]
    cases plan <;>
      simp [ReplyData.leadingWords, Lane.leadingWords, entryWords, words32, LanePlan.words, hbudget]
  have hwords : q.data.words = q.data.leadingWords ++ ([word causes.length] ++ causes.map (fun c => word c.code) ++
      [flag v.muteInvolvedLatch, flag v.probeOwed, flag v.firstTurnOnDone] ++ words32 v.stateEntrySweep.toNat) := by
    rw [h]
    simp only [ReplyData.words, ReplyData.leadingWords, Lane.words, List.append_assoc]
  rw [← hleading]
  exact replyPayload_leading q draws hwords hshort

/-- Settles O15. -/
theorem returnBoundarySendsTheFirstThatExists : Obligations.ReturnBoundarySendsTheFirstThatExists := by
  unfold Obligations.ReturnBoundarySendsTheFirstThatExists
  refine ⟨fun s hreset => ⟨fun n rest hn => ?_, fun hnone => ⟨fun r hr hfirst => ?_, fun q rest hq hlater => ?_,
    fun hreplies hrefusal => ⟨fun p hp hhold => ?_, fun hfiller => ?_⟩⟩⟩, noticePayload_words, refusedPayload_words,
    snapshotPayload_words, replyPayload_words, replyData_words, by decide, laneReply_leading⟩
  · rw [exec_returnFrameBoundary hreset (State.pickReturn_of_notice hn)]
    simp only [State.removeReturn, hn, List.tail_cons]
    rfl
  · exact exec_returnFrameBoundary hreset (State.pickReturn_of_reply hnone (State.nextReply_of_refusal hr hfirst))
  · rw [exec_returnFrameBoundary hreset (State.pickReturn_of_reply hnone (State.nextReply_of_oldest hq hlater))]
    simp only [State.removeReturn, hq, List.tail_cons]
    rfl
  · refine exec_returnFrameBoundary hreset (item := .snapshot p) ((State.pickReturn_of_idle hnone hreplies hrefusal).trans ?_)
    rw [hp, hhold]
    rfl
  · refine exec_returnFrameBoundary hreset (item := .filler) ((State.pickReturn_of_idle hnone hreplies hrefusal).trans ?_)
    rcases hfiller with h | h
    · rw [h]
    · rw [h]
      cases s.snapshot <;> rfl

end Sys2Proof.Machine

/-! PROOFS. The forward frame as received, and a sweep frame through a chain of heads. -/

namespace Sys2Proof.Machine

/-! ### Forward frames (section 11.2) -/

theorem receiveWords_of_goodCheck {ws : List Word} (hmark : ws.getD 0 0 = driveMark)
    (hcheck : crc ((ws.drop 1).take 66) = ws.getD 67 0) :
    receiveWords ws = .goodFrame (decodeForward (ws.getD 1 0) (ws.getD 2 0) ((ws.drop 3).take 64)) := by
  unfold receiveWords
  rw [if_neg (not_not_intro hmark), if_neg (not_not_intro hcheck)]

theorem receiveWords_makeFrame {header word2 : Word} {payload : List Word} (h : payload.length = 64) :
    receiveWords (makeFrame header word2 payload).words = .goodFrame (decodeForward header word2 payload) := by
  have hwords : (makeFrame header word2 payload).words =
      (driveMark :: header :: word2 :: payload) ++ [crc (header :: word2 :: payload)] := by
    simp only [Frame.words, makeFrame]
  generalize hcheck : crc (header :: word2 :: payload) = check at hwords
  have hcovered : ((makeFrame header word2 payload).words.drop 1).take 66 = header :: word2 :: payload := by
    rw [hwords, List.drop_append_of_le_length (by simp)]
    exact List.take_left' (l₁ := header :: word2 :: payload) (by simp [h])
  have hpayload : ((makeFrame header word2 payload).words.drop 3).take 64 = payload := by
    rw [hwords, List.drop_append_of_le_length (by simp)]
    exact List.take_left' (l₁ := payload) h
  have hlast : (makeFrame header word2 payload).words.getD 67 0 = check := by
    have hlength : (driveMark :: header :: word2 :: payload).length = 67 := by simp [h]
    rw [hwords, List.getD_append_right _ _ _ _ hlength.le, hlength]
    rfl
  rw [receiveWords_of_goodCheck (by rw [hwords]; rfl) (by rw [hcovered, hlast, hcheck]), hpayload]
  rw [hwords]
  rfl

theorem decodeForward_drive (lane : BitVec 3) (hold : Bool) (low : BitVec 10) (sequence : Word) (samples : List Word) :
    decodeForward (driveHeader lane hold low) sequence samples = .drive lane hold low sequence samples := by
  have hkind : (driveHeader lane hold low).extractLsb' 14 2 = 1 := by
    refine BitVec.eq_of_getLsbD_eq fun i hi => ?_
    simp only [driveHeader, BitVec.getLsbD_extractLsb', BitVec.getLsbD_append]
    interval_cases i <;> simp
  have hlane : (driveHeader lane hold low).extractLsb' 11 3 = lane := by
    refine BitVec.eq_of_getLsbD_eq fun i hi => ?_
    simp only [driveHeader, BitVec.getLsbD_extractLsb', BitVec.getLsbD_append]
    interval_cases i <;> simp
  have hhold : (driveHeader lane hold low).getLsbD 10 = hold := by
    simp only [driveHeader, BitVec.getLsbD_append]
    simp
  have hlow : (driveHeader lane hold low).extractLsb' 0 10 = low := by
    refine BitVec.eq_of_getLsbD_eq fun i hi => ?_
    simp only [driveHeader, BitVec.getLsbD_extractLsb', BitVec.getLsbD_append]
    simp [hi]
  unfold decodeForward
  rw [hkind, hlane, hhold, hlow]
  rfl

theorem decodeForward_command (hold : Bool) (tag : Tag) (sequence : Word) (payload : List Word) :
    decodeForward ((2 : BitVec 2) ++ (0 : BitVec 3) ++ BitVec.ofBool hold ++ (0 : BitVec 2) ++ tag) sequence payload =
      .command hold tag payload := by
  generalize hheader : (2 : BitVec 2) ++ (0 : BitVec 3) ++ BitVec.ofBool hold ++ (0 : BitVec 2) ++ tag = header
  have hkind : header.extractLsb' 14 2 = 2 := by
    refine BitVec.eq_of_getLsbD_eq fun i hi => ?_
    simp only [← hheader, BitVec.getLsbD_extractLsb', BitVec.getLsbD_append]
    interval_cases i <;> simp
  have hhold : header.getLsbD 10 = hold := by
    simp only [← hheader, BitVec.getLsbD_append]
    simp
  have htag : header.extractLsb' 0 8 = tag := by
    refine BitVec.eq_of_getLsbD_eq fun i hi => ?_
    simp only [← hheader, BitVec.getLsbD_extractLsb', BitVec.getLsbD_append]
    simp [hi]
  unfold decodeForward
  rw [hkind, hhold, htag]
  rfl

theorem decodeForward_filler (hold : Bool) (sequence : Word) (payload : List Word) :
    decodeForward ((0 : BitVec 5) ++ BitVec.ofBool hold ++ (0 : BitVec 10)) sequence payload = .filler hold := by
  cases hold <;> rfl

/-- Settles O21: the words are taken apart as they were put together, and the header bit by bit. -/
theorem forwardFrameIsReceivedAsSent : Obligations.ForwardFrameIsReceivedAsSent := by
  unfold Obligations.ForwardFrameIsReceivedAsSent
  refine ⟨fun f hf => ?_, rfl, fun ws w => ?_⟩
  · cases f with
    | drive lane hold low sequence samples =>
      refine (receiveWords_makeFrame (by simpa [ForwardFrame.WellFormed] using hf)).trans ?_
      rw [decodeForward_drive]
    | command hold tag payload =>
      refine (receiveWords_makeFrame (by simpa [ForwardFrame.WellFormed] using hf)).trans ?_
      rw [decodeForward_command]
    | filler hold =>
      refine (receiveWords_makeFrame rfl).trans ?_
      rw [decodeForward_filler]
  · have hfold : crc (ws ++ [w]) = crcWord (crc ws) w := by simp [crc]
    rw [hfold]
    refine List.foldl_ext _ _ _ fun register i hi => ?_
    have hbit : w.getMsbD i = w.getLsbD (15 - i) := by
      simp [BitVec.getMsbD, List.mem_range.mp hi]
    have hmsb : register.msb = register.getLsbD 15 := by
      simp [BitVec.msb_eq_getLsbD_last]
    unfold crcBit
    rw [hbit, hmsb]
    by_cases heq : register.getLsbD 15 = w.getLsbD (15 - i)
    · rw [if_pos heq, if_neg (by simp only [heq, bne_self_eq_false, Bool.false_eq_true, not_false_eq_true])]
    · rw [if_neg heq, if_pos (by simpa using heq)]

/-! ### Reading a return (R23) -/

theorem isHeaderStart_of_isRecordStart {w : Word} (h : isRecordStart w = true) : isHeaderStart w = false := by
  have hbit : w.getLsbD 14 = true := by
    have := congrArg (·.getLsbD 1) (eq_of_beq h)
    simp only [BitVec.getLsbD_extractLsb', Nat.reduceAdd, Nat.reduceLT, decide_true, Bool.true_and] at this
    exact this.trans (by decide)
  by_contra hheader
  have := congrArg (·.getLsbD 6) (eq_of_beq (Bool.of_not_eq_false hheader))
  simp only [BitVec.getLsbD_extractLsb', Nat.reduceAdd, Nat.reduceLT, decide_true, Bool.true_and, hbit] at this
  exact absurd this (by decide)

/-- The words of records, one after another. -/
def recordWords (records : List HeadRecord) : List Word := records.flatMap HeadRecord.words

theorem recordWords_cons (r : HeadRecord) (rs : List HeadRecord) (ws : List Word) :
    recordWords (r :: rs) ++ ws = r.identity :: r.r0 :: r.r1 :: r.r2 :: r.r3 :: r.check :: (recordWords rs ++ ws) := rfl

theorem recordWords_append (rs rs' : List HeadRecord) : recordWords (rs ++ rs') = recordWords rs ++ recordWords rs' :=
  List.flatMap_append

theorem readGroups_recordWords {a : Word} (ha : isHeaderStart a = true) (rest : List Word) (rs : List HeadRecord)
    (hrs : ∀ x ∈ rs, isRecordStart x.identity = true) (room : Nat) (before : List HeadRecord) (hroom : rs.length ≤ room) :
    readGroups room before (recordWords rs ++ a :: rest) = readTail (before ++ rs) a rest := by
  induction rs generalizing room before with
  | nil =>
    rw [List.append_nil]
    show readGroups room before (a :: rest) = _
    unfold readGroups
    exact if_pos ha
  | cons r rs ih =>
    obtain ⟨room, rfl⟩ : ∃ n, room = n + 1 := ⟨room - 1, by simp only [List.length_cons] at hroom; omega⟩
    have hr := hrs r List.mem_cons_self
    rw [recordWords_cons, readGroups, isHeaderStart_of_isRecordStart hr, if_neg Bool.false_ne_true, if_pos hr,
      ih (fun x hx => hrs x (List.mem_cons_of_mem _ hx)) _ _ (Nat.le_of_succ_le_succ hroom), List.append_assoc]
    rfl

theorem readGroups_eq_some {room : Nat} {before : List HeadRecord} {ws : List Word} {r : LoopReturn}
    (h : readGroups room before ws = some r) :
    ∃ rs a rest, rs.length ≤ room ∧ (∀ x ∈ rs, isRecordStart x.identity = true) ∧ isHeaderStart a = true ∧
      ws = recordWords rs ++ a :: rest ∧ readTail (before ++ rs) a rest = some r := by
  fun_induction readGroups room before ws with
  | case1 => exact absurd h nofun
  | case2 room before w rest hw =>
    exact ⟨[], w, rest, Nat.zero_le _, nofun, hw, rfl, by rw [List.append_nil]; exact h⟩
  | case3 before w hw hstart room a b c d e rest ih =>
    obtain ⟨rs, header, tail, hroom, hrs, hheader, hws, htail⟩ := ih h
    refine ⟨⟨w, a, b, c, d, e⟩ :: rs, header, tail, Nat.succ_le_succ hroom, ?_, hheader, ?_, ?_⟩
    · exact List.forall_mem_cons.mpr ⟨hstart, hrs⟩
    · rw [recordWords_cons, hws]
    · rw [← htail, List.append_assoc]
      rfl
  | case4 => exact absurd h nofun
  | case5 => exact absurd h nofun

theorem readTail_eq_some {records : List HeadRecord} {a : Word} {rest : List Word} {r : LoopReturn} :
    readTail records a rest = some r ↔
      r.records = records ∧ r.headerA = a ∧ ∃ (slots : List Word) (check : Word) (after : List Word),
        slots.length = (a.extractLsb' 0 4).toNat + 1 ∧
        (r.checkGood = true ↔ check = crc (a :: r.headerB :: slots)) ∧ rest = r.headerB :: slots ++ check :: after := by
  obtain ⟨records', a', b', good⟩ := r
  generalize hcount : (a.extractLsb' 0 4).toNat + 1 = count
  cases rest with
  | nil => exact ⟨nofun, fun ⟨_, _, _, _, _, _, _, h⟩ => nomatch h⟩
  | cons b rest =>
    simp only [readTail, hcount]
    constructor
    · intro h
      split at h
      next check hcheck =>
        obtain ⟨rfl, rfl, rfl, rfl⟩ := LoopReturn.mk.injEq .. ▸ Option.some.inj h
        obtain ⟨hlt, hget⟩ := List.getElem?_eq_some_iff.mp hcheck
        refine ⟨rfl, rfl, rest.take count, check, rest.drop (count + 1), by simp; omega, ?_, ?_⟩
        · rw [beq_iff_eq, eq_comm]
        · rw [List.cons_append, ← hget, List.getElem_cons_drop, List.take_append_drop]
      next => exact absurd h nofun
    · rintro ⟨rfl, rfl, slots, check, after, hlength, hgood, hrest⟩
      have hafter : rest = slots ++ check :: after := (List.cons.inj hrest).2
      have hb : b = b' := (List.cons.inj hrest).1
      subst hafter hb
      have hget : (slots ++ check :: after)[count]? = some check := by
        rw [List.getElem?_append_right hlength.le, hlength, Nat.sub_self]
        rfl
      have htake : (slots ++ check :: after).take count = slots := List.take_left' hlength
      rw [hget, htake]
      refine congrArg some (congrArg _ ?_)
      rw [Bool.eq_iff_iff, beq_iff_eq, hgood, eq_comm]

theorem readReturn_eq_some {ws : List Word} {r : LoopReturn} :
    readReturn ws = some r ↔
      r.records.length ≤ 16 ∧ (∀ x ∈ r.records, isRecordStart x.identity = true) ∧ isHeaderStart r.headerA = true ∧
      ∃ (slots : List Word) (check : Word) (rest : List Word),
        slots.length = (r.headerA.extractLsb' 0 4).toNat + 1 ∧
        (r.checkGood = true ↔ check = crc (r.headerA :: r.headerB :: slots)) ∧
        ws = recordWords r.records ++ r.headerA :: r.headerB :: slots ++ check :: rest := by
  constructor
  · intro h
    obtain ⟨rs, a, tail, hroom, hrs, ha, rfl, htail⟩ := readGroups_eq_some h
    obtain ⟨hrecords, rfl, slots, check, rest, hlength, hgood, rfl⟩ := readTail_eq_some.mp htail
    rw [List.nil_append] at hrecords
    subst hrecords
    exact ⟨hroom, hrs, ha, slots, check, rest, hlength, hgood, by simp⟩
  · rintro ⟨hroom, hrs, ha, slots, check, rest, hlength, hgood, rfl⟩
    unfold readReturn
    rw [List.append_assoc, List.cons_append, readGroups_recordWords ha _ _ hrs greatestRecords _ hroom, readTail_eq_some]
    exact ⟨rfl, rfl, slots, check, rest, hlength, hgood, rfl⟩

/-! ### A sweep frame through a chain (R20 to R22) -/

theorem isRecordStart_record (h : Head) (x : Sampling) : isRecordStart (h.record x).identity = true := by
  refine beq_iff_eq.mpr (BitVec.eq_of_getLsbD_eq fun i hi => ?_)
  simp only [Head.record, Head.identity, BitVec.getLsbD_extractLsb', BitVec.getLsbD_append]
  interval_cases i <;> simp

theorem splitRecords_recordWords {a : Word} (ha : isHeaderStart a = true) (rest : List Word) (rs : List HeadRecord)
    (hrs : ∀ x ∈ rs, isRecordStart x.identity = true) :
    splitRecords (recordWords rs ++ a :: rest) = some (recordWords rs, a :: rest) := by
  induction rs with
  | nil =>
    show splitRecords (a :: rest) = _
    unfold splitRecords
    exact if_pos ha
  | cons r rs ih =>
    have hr := hrs r List.mem_cons_self
    rw [recordWords_cons, splitRecords, isHeaderStart_of_isRecordStart hr, if_neg Bool.false_ne_true, if_pos hr,
      ih fun x hx => hrs x (List.mem_cons_of_mem _ hx)]
    rfl

theorem Head.pass_recordWords {a : Word} (ha : isHeaderStart a = true) (rest : List Word) (rs : List HeadRecord)
    (hrs : ∀ x ∈ rs, isRecordStart x.identity = true) (h : Head) (x : Sampling) :
    (h.pass x (recordWords rs ++ a :: rest)).1 = recordWords (rs ++ [h.record x]) ++ a :: rest := by
  unfold Head.pass
  rw [splitRecords_recordWords ha rest rs hrs, recordWords_append]
  simp [recordWords]

theorem passChain_recordWords {a : Word} (ha : isHeaderStart a = true) (rest : List Word) (heads : List (Head × Sampling))
    (rs : List HeadRecord) (hrs : ∀ x ∈ rs, isRecordStart x.identity = true) :
    passChain heads (recordWords rs ++ a :: rest) =
      recordWords (rs ++ heads.map fun p => p.1.record p.2) ++ a :: rest := by
  induction heads generalizing rs with
  | nil => rw [List.map_nil, List.append_nil]; rfl
  | cons p heads ih =>
    rw [passChain, Head.pass_recordWords ha rest rs hrs, ih, List.map_cons, List.append_assoc]
    · rfl
    · simp only [List.mem_append, List.mem_singleton]
      rintro x (hx | rfl)
      exacts [hrs x hx, isRecordStart_record _ _]

theorem isHeaderStart_headerA (tag : BitVec 4) (n : Nat) : isHeaderStart (headerA tag n) = true := by
  refine beq_iff_eq.mpr (BitVec.eq_of_getLsbD_eq fun i hi => ?_)
  simp only [headerA, BitVec.getLsbD_extractLsb', BitVec.getLsbD_append]
  interval_cases i <;> simp

theorem headerA_tag (tag : BitVec 4) (n : Nat) : (headerA tag n).extractLsb' 4 4 = tag := by
  refine BitVec.eq_of_getLsbD_eq fun i hi => ?_
  simp only [headerA, BitVec.getLsbD_extractLsb', BitVec.getLsbD_append]
  interval_cases i <;> simp

theorem headerA_chainLength (tag : BitVec 4) {n : Nat} (hpos : 1 ≤ n) (hle : n ≤ 16) :
    ((headerA tag n).extractLsb' 0 4).toNat + 1 = n := by
  have hlow : (headerA tag n).extractLsb' 0 4 = BitVec.ofNat 4 (n - 1) := by
    refine BitVec.eq_of_getLsbD_eq fun i hi => ?_
    simp only [headerA, BitVec.getLsbD_extractLsb', BitVec.getLsbD_append]
    simp [hi]
  rw [hlow, BitVec.toNat_ofNat]
  omega

/-- Settles O22: each head adds its record behind those before it, and a return is read by its groups and its tail. -/
theorem sweepReturnOfAWholeChainIsValid : Obligations.SweepReturnOfAWholeChainIsValid := by
  unfold Obligations.SweepReturnOfAWholeChainIsValid
  refine ⟨fun sweep tag slots heads hpos hle hslots => ?_, fun ws r => ?_, fun x => ?_⟩
  · have hread : readReturn (passChain heads ((sweepFrame tag heads.length slots).drop 1)) =
        some { records := heads.map fun p => p.1.record p.2, headerA := headerA tag heads.length,
               headerB := ~~~ headerA tag heads.length, checkGood := true } := by
      have hheader := isHeaderStart_headerA tag heads.length
      refine readReturn_eq_some.mpr ⟨by simpa using hle, ?_, hheader, slots.map Slot.word, _, [],
        by rw [headerA_chainLength tag hpos hle, List.length_map, hslots], iff_of_true rfl rfl, ?_⟩
      · simp only [List.mem_map]
        rintro x ⟨p, -, rfl⟩
        exact isRecordStart_record _ _
      · refine (passChain_recordWords hheader _ heads [] nofun).trans ?_
        simp
    unfold judgeReturn
    rw [hread]
    simp only [headerA_tag, headerA_chainLength tag hpos hle, List.length_map, ne_eq, not_true_eq_false, or_self,
      Bool.not_true, Bool.false_eq_true, if_false]
  · rw [readReturn_eq_some]
    simp only [isRecordStart, isHeaderStart, beq_iff_eq]
    rfl
  · refine ⟨rfl, ?_, rfl, rfl, rfl, fun _ => rfl, rfl, rfl, rfl, rfl, ?_⟩
    · unfold HeadRecord.mode
      cases x.identity.getLsbD 8 <;> simp
    · unfold HeadRecord.checkGood
      rw [beq_iff_eq, eq_comm]

end Sys2Proof.Machine

/-! PROOFS. The sense loop: the launch, a LATE return, and sense classification. -/

namespace Sys2Proof.Machine

/-! ### Launch and LATE returns (R17, R18, R24, R25) -/

theorem Slot.word_setMode {mode : HeadMode} {quad : Nat} (h : quad ≤ 3) :
    (Slot.setMode mode quad).word = 0x4000#16 + (if mode = .quad then 0x0100#16 else 0) + BitVec.ofNat 16 quad := by
  cases mode <;> interval_cases quad <;> rfl

theorem exec_sweepTick {s : State} (h : s.inReset = false) (during : During) :
    exec (.sweepTick during) s = .next (s.tick during) :=
  congrArg Host.Outcome.next (State.unlessReset_of_running h _)

theorem exec_sweepReturn {s : State} (h : s.inReset = false) (words : List Word) (during : During) :
    exec (.sweepReturn words during) s = .next (s.takeReturn words during) :=
  congrArg Host.Outcome.next (State.unlessReset_of_running h _)

theorem State.completeEvaluation_of_none {s : State} (h : s.evaluation = none) : s.completeEvaluation = s :=
  if_neg (by simp [State.evaluating, h])

/-- Settles O24: with no sweep in flight a tick is the launch, and each of the 8 slot words is computed. -/
theorem tickLaunchesASweep : Obligations.TickLaunchesASweep := by
  unfold Obligations.TickLaunchesASweep
  refine ⟨⟨rfl, fun mode quad h => Slot.word_setMode h⟩, ?_⟩
  intro s during hreset heval hflight sweep tag slots a covered
  rw [exec_sweepTick hreset, State.tick, State.completeEvaluation_of_none heval]
  have hnone : s.beginInterval.inFlight = none := hflight
  rw [hnone]
  simp only [State.launch, saturatingSucc_eq_min]
  rfl

theorem judgeReturn_of_otherTag {f : InFlight} {words : List Word} {r : LoopReturn} (hread : readReturn words = some r)
    (hgood : r.checkGood = true) (htag : r.headerA.extractLsb' 4 4 ≠ f.tag) : judgeReturn f words = .late := by
  simp [judgeReturn, hread, hgood, htag]

theorem State.takeReturn_of_late {s : State} {f : InFlight} {words : List Word} (hflight : s.inFlight = some f)
    (hlate : judgeReturn f words = .late) (during : During) : s.takeReturn words during = s.countLate := by
  simp only [State.takeReturn, hflight, hlate]

/-- Settles O27: both forms are the LATE line of the judgement. -/
theorem lateReturnOnlyCounts : Obligations.LateReturnOnlyCounts := by
  unfold Obligations.LateReturnOnlyCounts
  intro s words during hreset hlate
  have htake : s.takeReturn words during = s.countLate := by
    obtain hnone | ⟨f, r, hflight, hread, hgood, htag⟩ := hlate
    · simp only [State.takeReturn, hnone]
    · exact State.takeReturn_of_late hflight (judgeReturn_of_otherTag hread hgood htag) during
  rw [exec_sweepReturn hreset, htake, State.countLate, saturatingSucc_eq_min]
  rfl

/-! ### The failure count (R31, R32) -/

/-- The failures counted after one more. -/
def State.failuresAfter (s : State) : Nat := min 65535 (s.consecutiveFailures + 1)

/-- The notice that a failed sweep queues: SENSE_BLIND raised, when it is. -/
def State.blindRaised (s : State) (sweep : SweepNo) : List Notice :=
  if s.siteRecord.failLimit ≤ s.failuresAfter ∧ s.senseBlind = false then
    [conditionNotice .senseBlind true (.number s.failuresAfter) sweep]
  else []

/-- The notice that a valid sweep queues: SENSE_BLIND released, when it was raised. -/
def State.blindReleased (s : State) (sweep : SweepNo) : List Notice :=
  if s.senseBlind then [conditionNotice .senseBlind false (.number 0) sweep] else []

/-- `s` with the notice queue of `q`. -/
def State.withNotices (s q : State) : State :=
  { s with notices := q.notices, noticesDropped := q.noticesDropped, droppedCount := q.droppedCount }

theorem State.noticesOf_withNotices (s q : State) : (s.withNotices q).NoticesOf q := ⟨rfl, rfl, rfl⟩

/-- What is queued depends on the notice queue alone, and changes nothing else. -/
theorem State.queuing_eq_withNotices {s q : State} (h : s.NoticesOf q) (ns : List Notice) :
    s.queuing ns = s.withNotices (q.queuing ns) := by
  have hframe : s.queuing ns = s.withNotices (s.queuing ns) := by
    clear h
    induction ns generalizing s with
    | nil => rfl
    | cons n ns ih =>
      have hcons : s.queuing (n :: ns) = (s.queueNotice n).queuing ns := rfl
      have hrest := ih (s := s.queueNotice n)
      rw [hcons]
      generalize (s.queueNotice n).queuing ns = t at hrest ⊢
      refine hrest.trans ?_
      rw [s.queueNotice_frame n]
      rfl
  obtain ⟨hnotices, hdropped, hcount⟩ := h.queuing ns
  rw [hframe]
  unfold State.withNotices
  rw [hnotices, hdropped, hcount]

theorem State.queueNotice_eq_withNotices {s q : State} (h : s.NoticesOf q) (n : Notice) :
    s.queueNotice n = s.withNotices (q.queuing [n]) := State.queuing_eq_withNotices h [n]

/-- What a failed sweep leaves: the count, the two conditions and the notice of SENSE_BLIND raised. -/
theorem State.failedSweep_eq (s : State) (sweep : SweepNo) :
    s.failedSweep sweep = State.withNotices
      { s with
        consecutiveFailures := s.failuresAfter
        senseBlind := s.senseBlind || decide (s.siteRecord.failLimit ≤ s.failuresAfter)
        blindMute := s.blindMute ||
          decide (s.siteRecord.failLimit + s.activeSet.parameters.blindMuteCount ≤ s.failuresAfter) }
      (s.queuing (s.blindRaised sweep)) := by
  have hcount : saturatingSucc 65535 s.consecutiveFailures = s.failuresAfter := saturatingSucc_eq_min _ _
  have hblind : (if s.siteRecord.failLimit ≤ s.failuresAfter ∧ s.senseBlind = false then
        State.queueNotice { s with consecutiveFailures := s.failuresAfter, senseBlind := true }
          (conditionNotice .senseBlind true (.number s.failuresAfter) sweep)
      else { s with consecutiveFailures := s.failuresAfter }) = State.withNotices
        { s with
          consecutiveFailures := s.failuresAfter
          senseBlind := s.senseBlind || decide (s.siteRecord.failLimit ≤ s.failuresAfter) }
        (s.queuing (s.blindRaised sweep)) := by
    unfold State.blindRaised
    by_cases hraise : s.siteRecord.failLimit ≤ s.failuresAfter ∧ s.senseBlind = false
    · rw [if_pos hraise, if_pos hraise, decide_eq_true hraise.1, Bool.or_true]
      exact State.queueNotice_eq_withNotices (q := s) (by exact ⟨rfl, rfl, rfl⟩) _
    · have hkept : (s.senseBlind || decide (s.siteRecord.failLimit ≤ s.failuresAfter)) = s.senseBlind := by
        cases hblind : s.senseBlind with
        | true => rfl
        | false => exact decide_eq_false fun hle => hraise ⟨hle, hblind⟩
      rw [if_neg hraise, if_neg hraise, hkept]
      rfl
  unfold State.failedSweep
  simp only [hcount, hblind]
  by_cases hmute : s.siteRecord.failLimit + s.activeSet.parameters.blindMuteCount ≤ s.failuresAfter
  · rw [decide_eq_true hmute, Bool.or_true]
    exact if_pos hmute
  · rw [decide_eq_false hmute, Bool.or_false]
    exact if_neg hmute

/-- What a valid sweep leaves of the count and the two conditions. -/
theorem State.validSweep_eq (s : State) (sweep : SweepNo) :
    s.validSweep sweep = State.withNotices { s with consecutiveFailures := 0, senseBlind := false, blindMute := false }
      (s.queuing (s.blindReleased sweep)) := by
  unfold State.validSweep State.blindReleased
  cases hblind : s.senseBlind with
  | true =>
    simp only [if_true]
    exact State.queueNotice_eq_withNotices (q := s) (by exact ⟨rfl, rfl, rfl⟩) _
  | false =>
    rw [← hblind]
    simp only [hblind, Bool.false_eq_true, if_false]
    rfl

/-! ### The stale counts (R33, R34) -/

/-- Position `k`'s stale count after a valid sweep with these fresh records. -/
def State.staleAfter (s : State) (fresh : List (Option HeadRecord)) (k : Nat) : Nat :=
  match fresh[k]? with
  | some none => saturatingSucc 255 (s.staleCount k)
  | _ => 0

/-- HEAD_LOST of position `k` after a valid sweep with these fresh records. -/
def State.lostAfter (s : State) (fresh : List (Option HeadRecord)) (k : Nat) : Bool :=
  match fresh[k]? with
  | some none => s.isHeadLost k || s.activeSet.parameters.headLossLimit ≤ s.staleAfter fresh k
  | _ => false

/-- The notice of a HEAD_LOST that is raised or released at position `k`. -/
def State.lostNotice (s : State) (fresh : List (Option HeadRecord)) (sweep : SweepNo) (k : Nat) : Notice :=
  conditionNotice (.headLost k) (s.lostAfter fresh k) (.number (s.staleAfter fresh k)) sweep

/-- HEAD_LOST changes at position `k`. -/
def State.lostChanges (s : State) (fresh : List (Option HeadRecord)) (k : Nat) : Bool :=
  s.lostAfter fresh k != s.isHeadLost k

theorem countStale_eq (sweep : SweepNo) (fresh : List (Option HeadRecord)) (k : Nat) (s : State) :
    countStale sweep fresh k s = State.withNotices
      { s with
        staleCounts := s.staleCounts.set k (s.staleAfter fresh k), headLost := s.headLost.set k (s.lostAfter fresh k) }
      (s.queuing (if s.lostChanges fresh k then [s.lostNotice fresh sweep k] else [])) := by
  have hcounted : countStale sweep fresh k s =
      if s.lostAfter fresh k = s.isHeadLost k then
        { s with
          staleCounts := s.staleCounts.set k (s.staleAfter fresh k), headLost := s.headLost.set k (s.lostAfter fresh k) }
      else
        State.queueNotice
          { s with
            staleCounts := s.staleCounts.set k (s.staleAfter fresh k)
            headLost := s.headLost.set k (s.lostAfter fresh k) }
          (s.lostNotice fresh sweep k) := rfl
  rw [hcounted]
  by_cases hsame : s.lostAfter fresh k = s.isHeadLost k
  · rw [if_pos hsame, if_neg (by simp [State.lostChanges, hsame])]
    rfl
  · rw [if_neg hsame, if_pos (by simp [State.lostChanges, hsame])]
    exact State.queueNotice_eq_withNotices (q := s) (by exact ⟨rfl, rfl, rfl⟩) _

/-- `t` is `s` after the stale counts of the positions below `n`. -/
structure State.CountedBelow (s : State) (sweep : SweepNo) (fresh : List (Option HeadRecord)) (n : Nat) (t : State) : Prop where
  frame : t = State.withNotices { s with staleCounts := t.staleCounts, headLost := t.headLost }
    (s.queuing (((List.range n).filter (s.lostChanges fresh)).map (s.lostNotice fresh sweep)))
  staleLength : t.staleCounts.length = s.staleCounts.length
  lostLength : t.headLost.length = s.headLost.length
  stale : ∀ k, t.staleCount k = if k < n ∧ k < s.staleCounts.length then s.staleAfter fresh k else s.staleCount k
  lost : ∀ k, t.isHeadLost k = if k < n ∧ k < s.headLost.length then s.lostAfter fresh k else s.isHeadLost k

/-- Writing place `n` after the places below it writes those below `n + 1`. -/
theorem ite_succ_eq {α : Type} (n k length : Nat) (f : Nat → α) (d : α) :
    (if n = k ∧ n < length then f n else if k < n ∧ k < length then f k else d) =
      if k < n + 1 ∧ k < length then f k else d := by
  obtain rfl | hk := eq_or_ne n k
  · simp
  · have hlt : k < n + 1 ↔ k < n := by omega
    simp [hk, hlt]

theorem State.CountedBelow.succ {s t : State} {sweep : SweepNo} {fresh : List (Option HeadRecord)} {n : Nat}
    (h : s.CountedBelow sweep fresh n t) : s.CountedBelow sweep fresh (n + 1) (countStale sweep fresh n t) := by
  have hset : t.activeSet = s.activeSet := by rw [h.frame]; rfl
  have hstale : t.staleAfter fresh n = s.staleAfter fresh n := by
    unfold State.staleAfter
    rw [h.stale n, if_neg (by omega)]
  have hlost : t.lostAfter fresh n = s.lostAfter fresh n := by
    unfold State.lostAfter
    rw [h.lost n, if_neg (by omega), hstale, hset]
  have hchanges : t.lostChanges fresh n = s.lostChanges fresh n := by
    unfold State.lostChanges
    rw [hlost, h.lost n, if_neg (by omega)]
  have hnotice : t.lostNotice fresh sweep n = s.lostNotice fresh sweep n := by
    unfold State.lostNotice
    rw [hlost, hstale]
  have hcounted := countStale_eq sweep fresh n t
  rw [hstale, hlost, hchanges, hnotice] at hcounted
  refine ⟨?_, ?_, ?_, fun k => ?_, fun k => ?_⟩
  · have hmapped : (if s.lostChanges fresh n then [n] else []).map (s.lostNotice fresh sweep) =
        if s.lostChanges fresh n then [s.lostNotice fresh sweep n] else [] := by split <;> rfl
    rw [filter_range_succ, List.map_append, hmapped, State.queuing_append, hcounted]
    generalize (if s.lostChanges fresh n then [s.lostNotice fresh sweep n] else []) = added
    have hframe := h.frame
    generalize s.queuing _ = q at hframe ⊢
    obtain ⟨a, b, rfl⟩ : ∃ a b, t = State.withNotices { s with staleCounts := a, headLost := b } q := ⟨_, _, hframe⟩
    rw [State.queuing_eq_withNotices (State.noticesOf_withNotices _ q)]
    rfl
  · rw [hcounted]
    exact (List.length_set ..).trans h.staleLength
  · rw [hcounted]
    exact (List.length_set ..).trans h.lostLength
  · have hkept : t.staleCounts.getD k 0 = _ := h.stale k
    rw [hcounted]
    refine (getD_set t.staleCounts n k _ 0).trans ?_
    rw [hkept, h.staleLength, ite_succ_eq]
  · have hkept : t.headLost.getD k false = _ := h.lost k
    rw [hcounted]
    refine (getD_set t.headLost n k _ false).trans ?_
    rw [hkept, h.lostLength, ite_succ_eq]

/-- The stage of a valid sweep: the failure count, the reported modes, and then every position. -/
theorem State.countedBelow_forEach (s : State) (sweep : SweepNo) (fresh : List (Option HeadRecord)) (n : Nat) :
    s.CountedBelow sweep fresh n (forEach (List.range n) (countStale sweep fresh) s) :=
  foldl_range (P := fun n t => s.CountedBelow sweep fresh n t) n
    ⟨rfl, rfl, rfl, fun k => (if_neg (by omega)).symm, fun k => (if_neg (by omega)).symm⟩ fun _ _ _ h => h.succ

/-! ### Sense classification (R27 to R30) -/

/-- The state of a valid sweep before its stale counts. -/
def State.sensing (s : State) (sweep : SweepNo) (records : List HeadRecord) : State :=
  State.validSweep { s with reportedModes := reportModes s.reportedModes records } sweep

theorem State.sensing_eq (s : State) (sweep : SweepNo) (records : List HeadRecord) :
    s.sensing sweep records = State.withNotices
      { s with
        reportedModes := reportModes s.reportedModes records
        consecutiveFailures := 0, senseBlind := false, blindMute := false }
      (s.queuing (s.blindReleased sweep)) := by
  have hqueued := State.queuing_eq_withNotices
    (s := { s with reportedModes := reportModes s.reportedModes records }) (q := s) ⟨rfl, rfl, rfl⟩ (s.blindReleased sweep)
  refine (State.validSweep_eq _ sweep).trans ?_
  change State.withNotices _ (State.queuing _ (s.blindReleased sweep)) = _
  rw [hqueued]
  rfl

/-- What a valid sweep leaves, as one state: the notices are those of SENSE_BLIND and of each HEAD_LOST that changes. -/
theorem classify_valid_countedBelow (s : State) (sweep : SweepNo) (records : List HeadRecord) :
    (s.sensing sweep records).CountedBelow sweep (freshRecords s.activeSet records) headCount
      (classify sweep (some records) s).1 :=
  State.countedBelow_forEach _ sweep _ headCount

theorem State.staleAfter_sensing (s : State) (sweep : SweepNo) (records : List HeadRecord) :
    (s.sensing sweep records).staleAfter = s.staleAfter ∧ (s.sensing sweep records).lostAfter = s.lostAfter ∧
      (s.sensing sweep records).isHeadLost = s.isHeadLost ∧ (s.sensing sweep records).staleCount = s.staleCount := by
  rw [State.sensing_eq]
  exact ⟨rfl, rfl, rfl, rfl⟩

/-- The stage of a valid sweep as one state. -/
theorem classify_valid_frame (s : State) (sweep : SweepNo) (records : List HeadRecord) :
    let t := (classify sweep (some records) s).1
    let fresh := freshRecords s.activeSet records
    t = State.withNotices
      { s with
        reportedModes := reportModes s.reportedModes records
        consecutiveFailures := 0, senseBlind := false, blindMute := false
        staleCounts := t.staleCounts, headLost := t.headLost }
      (s.queuing (s.blindReleased sweep ++
        ((List.range headCount).filter (s.lostChanges fresh)).map (s.lostNotice fresh sweep))) := by
  intro t fresh
  have hframe := (classify_valid_countedBelow s sweep records).frame
  obtain ⟨hstale, hlost, hheld, -⟩ := s.staleAfter_sensing sweep records
  have hchanges : (s.sensing sweep records).lostChanges = s.lostChanges := by
    funext f k
    unfold State.lostChanges
    rw [hlost, hheld]
  have hnotice : (s.sensing sweep records).lostNotice = s.lostNotice := by
    funext f w k
    unfold State.lostNotice
    rw [hlost, hstale]
  rw [hchanges, hnotice, State.sensing_eq] at hframe
  rw [State.queuing_append]
  refine hframe.trans ?_
  rw [State.queuing_eq_withNotices (State.noticesOf_withNotices _ _)]
  rfl

theorem classify_valid_staleCount (s : State) (sweep : SweepNo) (records : List HeadRecord) {k : Nat}
    (hlength : s.staleCounts.length = headCount) (hk : k < headCount) :
    (classify sweep (some records) s).1.staleCount k = s.staleAfter (freshRecords s.activeSet records) k := by
  have hlen : (s.sensing sweep records).staleCounts.length = headCount := by rw [State.sensing_eq]; exact hlength
  rw [(classify_valid_countedBelow s sweep records).stale k, hlen, if_pos ⟨hk, hk⟩,
    (s.staleAfter_sensing sweep records).1]

theorem classify_valid_isHeadLost (s : State) (sweep : SweepNo) (records : List HeadRecord) {k : Nat}
    (hlength : s.headLost.length = headCount) (hk : k < headCount) :
    (classify sweep (some records) s).1.isHeadLost k = s.lostAfter (freshRecords s.activeSet records) k := by
  have hlen : (s.sensing sweep records).headLost.length = headCount := by rw [State.sensing_eq]; exact hlength
  rw [(classify_valid_countedBelow s sweep records).lost k, hlen, if_pos ⟨hk, hk⟩,
    (s.staleAfter_sensing sweep records).2.1]

/-- Settles O29: the failed sweep's state is written out, and where no HEAD_LOST changes a valid sweep queues the
notice of SENSE_BLIND alone. -/
theorem failureCountRaisesAndReleasesBlindness : Obligations.FailureCountRaisesAndReleasesBlindness := by
  unfold Obligations.FailureCountRaisesAndReleasesBlindness
  intro s sweep records
  refine ⟨?_, ?_⟩
  · have hfailed : (classify sweep none s).1 = _ := s.failedSweep_eq sweep
    intro t n
    have ht : t = _ := hfailed
    have hnotices : t.NoticesOf (s.queuing (s.blindRaised sweep)) := by rw [ht]; exact State.noticesOf_withNotices _ _
    refine ⟨?_, ?_, ?_, fun hblind hle => ?_, fun hquiet => ?_, ?_⟩
    · rw [ht]; rfl
    · rw [ht]; rfl
    · rw [ht]; rfl
    · rwa [State.blindRaised, if_pos ⟨hle, hblind⟩] at hnotices
    · have hnot : ¬ (s.siteRecord.failLimit ≤ s.failuresAfter ∧ s.senseBlind = false) := by
        rintro ⟨hle, hblind⟩
        obtain hraised | hlt := hquiet
        · exact absurd (hraised.symm.trans hblind) (by decide)
        · exact absurd hle (Nat.not_le.mpr hlt)
      rwa [State.blindRaised, if_neg hnot] at hnotices
    · rw [ht]; rfl
  · intro t
    have hframe := classify_valid_frame s sweep records
    refine ⟨by rw [show t = _ from hframe]; rfl, by rw [show t = _ from hframe]; rfl,
      by rw [show t = _ from hframe]; rfl, fun hlength hsame => ?_⟩
    have hnone : (List.range headCount).filter (s.lostChanges (freshRecords s.activeSet records)) = [] := by
      refine List.filter_eq_nil_iff.mpr fun k hk => ?_
      have hk := List.mem_range.mp hk
      have hlost := (classify_valid_isHeadLost s sweep records hlength hk).symm.trans (hsame k hk)
      simp [State.lostChanges, hlost]
    have hnotices : t.NoticesOf (s.queuing (s.blindReleased sweep)) := by
      rw [show t = _ from hframe, hnone, List.map_nil, List.append_nil]
      exact State.noticesOf_withNotices _ _
    refine ⟨fun hblind => ?_, fun hblind => ?_⟩
    · rwa [State.blindReleased, if_pos hblind] at hnotices
    · rwa [State.blindReleased, if_neg (by simp [hblind])] at hnotices

/-! ### Freshness (R28, R29) -/

theorem recordStale_iff (e : Option HeadEntry) (r : HeadRecord) :
    recordStale e r = true ↔ r.checkGood = false ∨ ∃ d, e = some d ∧
      ((∃ id, d.expectedId = some id ∧ id ≠ r.headId) ∨ d.mode ≠ r.mode ∨
        (d.mode = .quad ∧ d.quadInput ≠ r.quadInput)) := by
  cases e with
  | none => simp [recordStale]
  | some d => cases hid : d.expectedId <;> simp [recordStale, hid, or_assoc]

theorem freshRecords_getElem? (t : TableSet) (records : List HeadRecord) (k : Nat) :
    (freshRecords t records)[k]? =
      records[k]?.map fun r => if recordStale (t.head k) r then none else some r := by
  simp only [freshRecords, List.getElem?_map, List.getElem?_zipIdx, Option.map_map, Nat.zero_add]
  rfl

theorem State.after_of_stale {s : State} {records : List HeadRecord} {k : Nat} {r : HeadRecord}
    (hr : records[k]? = some r) (hstale : recordStale (s.activeSet.head k) r = true) :
    s.staleAfter (freshRecords s.activeSet records) k = min 255 (s.staleCount k + 1) ∧
    s.lostAfter (freshRecords s.activeSet records) k =
      (s.isHeadLost k || decide (s.activeSet.parameters.headLossLimit ≤ min 255 (s.staleCount k + 1))) := by
  have hentry : (freshRecords s.activeSet records)[k]? = some none := by
    rw [freshRecords_getElem?, hr, Option.map_some, if_pos hstale]
  simp only [State.lostAfter, State.staleAfter, hentry, saturatingSucc_eq_min, and_self]

theorem State.after_of_not_stale {s : State} {records : List HeadRecord} {k : Nat}
    (hfresh : ∀ r, records[k]? = some r → recordStale (s.activeSet.head k) r = false) :
    s.staleAfter (freshRecords s.activeSet records) k = 0 ∧
    s.lostAfter (freshRecords s.activeSet records) k = false := by
  have hentry := freshRecords_getElem? s.activeSet records k
  cases hr : records[k]? with
  | none =>
    rw [hr, Option.map_none] at hentry
    simp only [State.lostAfter, State.staleAfter, hentry, and_self]
  | some r =>
    rw [hr, Option.map_some, if_neg (by simp [hfresh r hr])] at hentry
    simp only [State.lostAfter, State.staleAfter, hentry, and_self]

theorem reportModes_getD {old : List (Option ReportedMode)} {k : Nat} (hk : k < old.length) (records : List HeadRecord) :
    (∀ r, records[k]? = some r → r.checkGood = true →
      (reportModes old records).getD k none = some { mode := r.mode, quadInput := r.quadInput }) ∧
    ((∀ r, records[k]? = some r → r.checkGood = false) → (reportModes old records).getD k none = old.getD k none) := by
  refine ⟨fun r hr hgood => ?_, fun hbad => ?_⟩
  · simp [reportModes, hk, hr, hgood]
  · cases hr : records[k]? with
    | none => simp [reportModes, hk, hr]
    | some r => simp [reportModes, hk, hr, hbad r hr]

theorem Classified.record_freshRecords (t : TableSet) (sweep : SweepNo) (valid : Bool) (records : List HeadRecord)
    (k : Nat) (r : HeadRecord) :
    ({ sweep, valid, fresh := freshRecords t records } : Classified).record k = some r ↔
      records[k]? = some r ∧ recordStale (t.head k) r = false := by
  unfold Classified.record
  rw [List.getD_eq_getElem?_getD, freshRecords_getElem?]
  cases hr : records[k]? with
  | none => simp
  | some r' =>
    cases hstale : recordStale (t.head k) r' with
    | true =>
      simp only [Option.map_some, hstale, if_true, Option.getD_some, Option.some.injEq]
      refine ⟨nofun, fun ⟨heq, hgood⟩ => ?_⟩
      subst heq
      exact absurd (hstale.symm.trans hgood) (by decide)
    | false =>
      simp only [Option.map_some, hstale, Bool.false_eq_true, if_false, Option.getD_some, Option.some.injEq]
      refine ⟨fun heq => ⟨heq, heq ▸ hstale⟩, fun ⟨heq, _⟩ => heq⟩

/-- Settles O30: the counts and marks of every position by the freshness of its record, and the notices in order. -/
theorem headLostFollowsTheStaleCounts : Obligations.HeadLostFollowsTheStaleCounts := by
  unfold Obligations.HeadLostFollowsTheStaleCounts
  intro s sweep records k hstales hlosts hk t
  have hframe := classify_valid_frame s sweep records
  have hcount (j : Nat) (hj : j < headCount) : t.staleCount j = _ := classify_valid_staleCount s sweep records hstales hj
  have hlost (j : Nat) (hj : j < headCount) : t.isHeadLost j = _ := classify_valid_isHeadLost s sweep records hlosts hj
  refine ⟨fun changed hascends hmem => ?_, ?_, fun r hr hstale => ?_, fun r hr hfresh => ?_, fun hnone => ?_,
    fun hmodes => ?_, fun r => ?_, recordStale_iff⟩
  · have hchanged : changed = (List.range headCount).filter (s.lostChanges (freshRecords s.activeSet records)) := by
      refine ascending_eq_filter hascends fun j => (hmem j).trans (and_congr_right fun hj => ?_)
      rw [hlost j hj, State.lostChanges, bne_iff_ne]
    have hmapped : changed.map (s.lostNotice (freshRecords s.activeSet records) sweep) =
        changed.map fun j =>
          { subject := .headLost j, state := if t.isHeadLost j then .raised else .released
            value := .number (t.staleCount j), sweep, changes := 1 } := by
      refine List.map_congr_left fun j hj => ?_
      have hj := ((hmem j).mp hj).1
      rw [hlost j hj, hcount j hj]
      rfl
    rw [← hmapped, hchanged, show t = _ from hframe]
    exact State.noticesOf_withNotices _ _
  · have hrest (u : State) (a b c q) (hu : u = State.withNotices
        { s with
          reportedModes := a, consecutiveFailures := 0, senseBlind := false, blindMute := false
          staleCounts := b, headLost := c } q) :
        u = { s with
          reportedModes := u.reportedModes, consecutiveFailures := 0, senseBlind := false, blindMute := false
          staleCounts := u.staleCounts, headLost := u.headLost, notices := u.notices
          noticesDropped := u.noticesDropped, droppedCount := u.droppedCount } := by
      subst hu
      rfl
    exact hrest t _ _ _ _ hframe
  · rw [hcount k hk, hlost k hk]
    exact State.after_of_stale hr hstale
  · rw [hcount k hk, hlost k hk]
    refine State.after_of_not_stale fun r' hr' => ?_
    exact Option.some.inj (hr.symm.trans hr') ▸ hfresh
  · rw [hcount k hk, hlost k hk]
    exact State.after_of_not_stale fun r' hr' => absurd (hnone.symm.trans hr') nofun
  · have hreported : t.reportedMode k = (reportModes s.reportedModes records).getD k none := by
      rw [show t = _ from hframe]
      rfl
    rw [hreported]
    exact reportModes_getD (by rw [hmodes]; exact hk) records
  · exact Classified.record_freshRecords s.activeSet sweep true records k r

end Sys2Proof.Machine

/-! PROOFS. What the evaluation leaves of the sense loop: after classification no stage and no event meanwhile moves the
sweep in flight, the sweep numbers, the statistics of closed sweeps or the failure count; so the closes of a sweep. -/

namespace Sys2Proof.Machine

/-! ### What the stages after classification leave -/

/-- The sense loop's fields that only the ticks, the returns and sense classification write, the commands held, and
whether an evaluation is in progress. -/
def State.clock (s : State) :=
  (s.inReset, s.inFlight, s.sweepNumber, s.intervalPeriod, s.lastEvaluation, s.consecutiveFailures, s.senseBlind,
    s.blindMute, { s.sweepStatistics with late := 0 }, s.evaluation.isSome)

/-- What only events write besides: the commands held and the count of LATE returns. -/
def State.intake (s : State) := (s.commands, s.sweepStatistics.late)

/-- `Q` is kept by what the stages after classification do to the sense loop's fields and to the commands held. -/
structure ClockClosed (Q : State → Prop) : Prop where
  frame : ∀ s t : State, t.clock = s.clock → t.intake = s.intake → Q s → Q t
  completeHead : ∀ (s : State) (r : ReplyResult) (d : ReplyData), Q s → Q (s.completeHead r d)

theorem State.queueNotice_clock (s : State) (n : Notice) : (s.queueNotice n).clock = s.clock := by simp [State.clock]

theorem State.queueNotice?_clock (s : State) (n : Option Notice) : (s.queueNotice? n).clock = s.clock := by
  simp [State.clock]

theorem State.completeHead_clock (s : State) (r : ReplyResult) (d : ReplyData) : (s.completeHead r d).clock = s.clock := by
  simp [State.clock]

namespace ClockClosed

variable {Q : State → Prop} (h : ClockClosed Q)
include h

theorem queueNotice {s : State} (n : Notice) (hs : Q s) : Q (s.queueNotice n) :=
  h.frame s _ (s.queueNotice_clock n) (by simp [State.intake]) hs

theorem queueNotice? {s : State} (n : Option Notice) (hs : Q s) : Q (s.queueNotice? n) :=
  h.frame s _ (s.queueNotice?_clock n) (by simp [State.intake]) hs

theorem changeLane {s : State} (l : Nat) (v : Lane) (hs : Q s) : Q (s.changeLane l v) :=
  h.queueNotice? _ (h.frame s _ rfl rfl hs)

theorem muteLane {s : State} (l : Nat) (hs : Q s) : Q (muteLane l s) := by
  unfold Machine.muteLane
  split
  · exact h.frame (s.changeLane l _) _ (by simp [State.clock, State.noteMuted]) rfl (h.changeLane l _ hs)
  · exact hs

theorem muteLanes {s : State} (hs : Q s) : Q s.muteLanes := forEach_keeps (fun l _ _ ht => h.muteLane l ht) hs

theorem restrikeLane {s : State} (l : Nat) (hs : Q s) : Q (restrikeLane l s) := by
  unfold Machine.restrikeLane
  dsimp only
  split
  · exact h.frame s _ rfl rfl hs
  · exact hs

theorem countDownZone (sweep : SweepNo) (z : Nat) {s : State} (hs : Q s) : Q (countDownZone sweep z s) := by
  unfold Machine.countDownZone
  dsimp only
  split
  · split
    · exact forEach_keeps (fun l _ t ht => h.restrikeLane l ht) (h.queueNotice _ (h.frame s _ rfl rfl hs))
    · exact h.frame s _ rfl rfl hs
  · exact hs

theorem blankLane {s : State} (l : Nat) (hs : Q s) : Q (blankLane l s) := by
  unfold Machine.blankLane
  dsimp only
  split
  · exact hs
  · exact h.frame s _ (by simp [State.clock, State.noteMoved, State.setLane]) rfl hs

theorem returnArcRow (z : Nat) (sweep : SweepNo) (i : Nat) {s : State} (hs : Q s) : Q (returnArcRow z sweep i s) := by
  unfold Machine.returnArcRow
  split
  · split
    · dsimp only
      split
      · exact h.queueNotice _ (h.frame s _ rfl rfl hs)
      · exact h.frame s _ rfl rfl hs
    · exact hs
  · exact hs

theorem completeLane (sweep : SweepNo) (settled : List Settled) (demands grants : List Nat) (l : Nat) {s : State}
    (hs : Q s) : Q (completeLane sweep settled demands grants l s) := by
  unfold Machine.completeLane
  dsimp only
  split
  · exact h.frame s _ rfl rfl hs
  · exact h.queueNotice? _ (h.frame s _ rfl rfl hs)

theorem snapshotStage (sweep : SweepNo) {s : State} (hs : Q s) : Q (snapshotStage sweep s) := by
  unfold Machine.snapshotStage
  dsimp only
  split_ifs
  all_goals exact h.frame s _ rfl rfl hs

section Meanwhile

variable {m : Meanwhile} (hm : ∀ p s, Q s → Q (m p s))
include hm

theorem queueEach {s : State} (is : List Nat) (notice : Nat → Option Notice) {place : Nat → EvalPoint} (hs : Q s) :
    Q (s.queueEach is notice fun i => m (place i)) :=
  forEach_keeps (fun i _ _ ht => hm (place i) _ (h.queueNotice? (notice i) ht)) hs

theorem activationStage (sweep : SweepNo) {s : State} (hs : Q s) : Q (activationStage sweep s m).1 := by
  unfold Machine.activationStage
  split
  · exact hs
  · rename_i w hw
    split
    · rename_i b _
      show Q (s.deferActivation w b)
      unfold State.deferActivation
      split
      · exact h.completeHead _ _ _ (h.frame s _ rfl rfl hs)
      · exact h.frame s _ rfl rfl hs
    · have carried : Q (s.carryRows w.tables sweep m) := h.queueEach hm _ _ (h.frame s _ rfl rfl hs)
      exact h.completeHead _ _ _ (h.frame (s.carryRows w.tables sweep m) _ rfl rfl carried)

theorem enterBlank (z : Nat) (history : List SweepNo) (sweep : SweepNo) {s : State} (hs : Q s) :
    Q (s.enterBlank z history sweep m) :=
  forEach_keeps (fun i _ _ ht => hm _ _ (h.returnArcRow z sweep i ht))
    (hm _ _ (forEach_keeps (fun l _ _ ht => h.blankLane l ht) (h.queueNotice _ (h.frame s _ rfl rfl hs))))

theorem judgeZone (sweep : SweepNo) (arcs : List Nat) (z : Nat) {s : State} (hs : Q s) :
    Q (judgeZone sweep arcs z s m) := by
  unfold Machine.judgeZone
  dsimp only
  split
  · split
    · exact hm _ _ (h.queueNotice _ (h.frame s _ rfl rfl hs))
    · exact h.enterBlank hm z _ sweep hs
  · exact hm _ _ (h.frame s _ rfl rfl hs)

theorem resolveArcLine (c : Classified) (headZones : List Nat) {s : State} (hs : Q s) :
    Q (resolveArcLine c headZones s m) := by
  have decided (t : State) (ht : Q t) : Q t.decideRemoval :=
    h.frame t _ (by simp [State.clock, State.decideRemoval]) rfl ht
  have sampled : Q (m .arcSampled (s.sampleArcLine c.sweep).decideRemoval) := by
    refine hm _ _ (decided _ ?_)
    unfold State.sampleArcLine
    split
    · exact h.queueNotice _ (h.frame s _ rfl rfl hs)
    · exact hs
  unfold Machine.resolveArcLine
  split
  · dsimp only
    split
    · exact h.queueNotice _ sampled
    · exact sampled
  · exact hs

theorem measuringStages (c : Classified) {s : State} (hs : Q s) : Q (measuringStages c m s) := by
  have points : Q (m .pointUpdate (pointStage c s)) := hm _ _ (h.frame s _ rfl rfl hs)
  have rows : Q (rowStage c.sweep (m .pointUpdate (pointStage c s)) m).1 :=
    h.queueEach hm _ _ (h.frame (m .pointUpdate (pointStage c s)) _ rfl rfl points)
  have zones : Q (blankingStep c.sweep (m .rowAdvance (rowStage c.sweep (m .pointUpdate (pointStage c s)) m).1) m) :=
    forEach_keeps (fun z _ _ ht => hm _ _ (h.countDownZone c.sweep z ht)) (hm .rowAdvance _ rows)
  exact hm _ _ (h.resolveArcLine hm _ _ (hm _ _ (forEach_keeps (fun z _ t ht => h.judgeZone hm _ _ z ht) (hm _ _ zones))))

theorem handlingStages (sweep : SweepNo) {s : State} (hs : Q s) : Q (handlingStages sweep m s) := by
  have settledOne (p : State × List Settled) (l : Nat) (hp : Q p.1) : Q (settleLane m p l).1 :=
    hm _ _ (h.frame p.1 _ (by simp [State.clock, State.beginSettled, State.setLane]) rfl hp)
  have settledAll (ls : List Nat) (p : State × List Settled) (hp : Q p.1) : Q (ls.foldl (settleLane m) p).1 := by
    induction ls generalizing p with
    | nil => exact hp
    | cons l ls ih => exact ih _ (settledOne p l hp)
  have settled : Q (settleStage s m).1 :=
    settledAll _ (forEach _ composeLane s, []) (forEach_keeps (fun _ _ t ht => h.frame t _ rfl rfl ht) hs)
  have completed : Q (completeStage sweep (settleStage s m).2 (m .settling (settleStage s m).1) m) :=
    forEach_keeps (fun l _ t ht => hm _ _ (h.completeLane sweep _ _ _ l ht))
      (h.frame (m .settling (settleStage s m).1) _ rfl rfl (hm _ _ settled))
  exact hm _ _ (h.snapshotStage sweep completed)

end Meanwhile

/-- Everything after sense classification keeps `Q`. -/
theorem evaluate {during : During} (hm : ∀ p s, Q s → Q (eventsAt during p s)) {s : State} {sweep : SweepNo}
    {records : Option (List HeadRecord)}
    (hs : Q (classify sweep records (eventsAt during .begun (s.beginEvaluation sweep)) (eventsAt during)).1) :
    Q (s.evaluate sweep records during) :=
  h.handlingStages hm sweep (h.measuringStages hm _
    (hm _ _ (h.activationStage hm sweep (hm _ _ hs))))

end ClockClosed

/-! ### The events meanwhile -/

theorem State.clock_closed (b : State) : ClockClosed fun s => s.clock = b.clock where
  frame _ _ hclock _ hs := hclock.trans hs
  completeHead s r d hs := (s.completeHead_clock r d).trans hs

theorem State.muteLanes_clock (s : State) : s.muteLanes.clock = s.clock := (State.clock_closed s).muteLanes rfl

theorem State.enterSearch_clock (s : State) : s.enterSearch.clock = s.clock := by
  unfold State.enterSearch
  dsimp only
  split
  · exact State.muteLanes_clock _
  · rfl

/-- A command that comes in while an evaluation is in progress is kept or refused, and not taken (R168). -/
theorem State.submit_clock {s : State} (h : s.evaluating = true) (tag : Tag) (p : List Word) :
    (s.submit tag p).clock = s.clock := by
  unfold State.submit
  split
  · have held : State.holdsCommands { s with commands := s.commands ++ [QueuedCommand.mk tag p] } = true := by
      simpa [State.holdsCommands, State.evaluating] using Or.inl (Or.inl h)
    rw [State.drainCommands, State.takeCommands_of_holds held]
    rfl
  · simp [State.clock]

theorem State.takeFrame_clock {s : State} (h : s.evaluating = true) (f : ForwardFrame) : (s.takeFrame f).clock = s.clock := by
  cases f with
  | drive lane hold low sequence samples =>
    unfold State.takeFrame State.takeDrive
    dsimp only
    split <;> rfl
  | command hold tag payload => exact State.submit_clock (s := s.countTaken hold) h tag payload
  | filler hold => rfl

theorem State.goodFrame_clock {s : State} (h : s.evaluating = true) (f : ForwardFrame) : (s.goodFrame f).clock = s.clock := by
  unfold State.goodFrame
  split
  · rfl
  · split
    · exact (State.takeFrame_clock (s := { s with goodFrames := s.goodFrames + 1, badFrames := 0, link := .locked }) h f)
    · rfl
  · exact State.takeFrame_clock (s := { s with badFrames := 0 }) h f

theorem State.badFrame_clock (s : State) : s.badFrame.clock = s.clock := by
  unfold State.badFrame
  split
  · rfl
  · exact State.enterSearch_clock _
  · dsimp only
    split
    · exact State.enterSearch_clock _
    · rfl

theorem midEvent_clock {s : State} (h : s.evaluating = true) (e : MidEvent) : (midEvent e s).clock = s.clock := by
  cases e with
  | openingMark =>
    unfold midEvent State.findMark
    dsimp only
    split <;> rfl
  | goodFrame f => exact State.goodFrame_clock h f
  | badFrame => exact s.badFrame_clock
  | missingMark =>
    unfold midEvent State.missMark
    dsimp only
    split
    · rfl
    · exact s.enterSearch_clock
  | lanePortBoundary => rfl
  | returnBoundary =>
    unfold midEvent State.returnBoundary
    dsimp only
    generalize s.pickReturn = item
    cases item <;> rfl
  | inhibitFall =>
    unfold midEvent State.inhibitFall
    dsimp only
    split
    · rfl
    · exact State.muteLanes_clock _
  | inhibitRise => rfl
  | arcFall =>
    unfold midEvent State.arcFall
    dsimp only
    split <;> rfl
  | arcRise =>
    unfold midEvent State.arcRise
    dsimp only
    split
    · exact State.queueNotice_clock _ _
    · rfl
  | loopReturn words => rfl

theorem State.evaluating_of_clock {s t : State} (h : t.clock = s.clock) : t.evaluating = s.evaluating :=
  congrArg (·.2.2.2.2.2.2.2.2.2) h

theorem eventsAt_clock {b : State} (hb : b.evaluating = true) (during : During) (p : EvalPoint) {s : State}
    (hs : s.clock = b.clock) : (eventsAt during p s).clock = b.clock :=
  eventsAt_keeps (P := fun t => t.clock = b.clock)
    (fun e _ ht => (midEvent_clock ((State.evaluating_of_clock ht).trans hb) e).trans ht) during p hs

/-! ### The evaluation of a failed and of a valid sweep -/

/-- The sense loop's fields when the evaluation of a sweep has begun. -/
theorem State.begun_clock (s : State) (sweep : SweepNo) (during : During) :
    (eventsAt during .begun (s.beginEvaluation sweep)).clock = (s.beginEvaluation sweep).clock :=
  eventsAt_clock (b := s.beginEvaluation sweep) rfl during .begun rfl

/-- Once a sweep is classified, nothing in its evaluation moves the sense loop's fields. -/
theorem State.evaluate_clock {s b : State} (hb : b.evaluating = true) {sweep : SweepNo}
    {records : Option (List HeadRecord)} {during : During}
    (hs : (classify sweep records (eventsAt during .begun (s.beginEvaluation sweep)) (eventsAt during)).1.clock = b.clock) :
    (s.evaluate sweep records during).clock = b.clock :=
  (State.clock_closed b).evaluate (fun p _ ht => eventsAt_clock hb during p ht) hs

theorem State.evaluate_failed_clock (s : State) (sweep : SweepNo) (during : During) :
    (s.evaluate sweep none during).clock =
      ((eventsAt during .begun (s.beginEvaluation sweep)).failedSweep sweep).clock := by
  have hbegun := State.evaluating_of_clock (s.begun_clock sweep during)
  generalize hb : (eventsAt during .begun (s.beginEvaluation sweep)).failedSweep sweep = b
  have heval : b.evaluating = true := by
    rw [← hb, State.failedSweep_eq]
    exact hbegun
  refine State.evaluate_clock heval ?_
  exact eventsAt_clock heval during .failureCount (congrArg State.clock hb)

theorem State.evaluate_valid_clock (s : State) (sweep : SweepNo) (records : List HeadRecord) (during : During) :
    (s.evaluate sweep (some records) during).clock =
      State.clock { s.beginEvaluation sweep with consecutiveFailures := 0, senseBlind := false, blindMute := false } := by
  have hbegun := s.begun_clock sweep during
  refine State.evaluate_clock rfl ?_
  generalize eventsAt during .begun (s.beginEvaluation sweep) = t at hbegun
  generalize hb : { s.beginEvaluation sweep with consecutiveFailures := 0, senseBlind := false, blindMute := false } = b
  have heval : b.evaluating = true := by rw [← hb]; rfl
  refine forEach_keeps (P := fun u => u.clock = b.clock) (fun k _ u hu => eventsAt_clock heval during _ ?_)
    (eventsAt_clock heval during .failureCount ?_)
  · rw [countStale_eq]
    exact hu
  · rw [State.validSweep_eq]
    subst hb
    simp only [State.clock, Prod.mk.injEq] at hbegun ⊢
    obtain ⟨hreset, hflight, hsweep, hperiod, hlast, -, -, -, hstatistics, heval⟩ := hbegun
    exact ⟨hreset, hflight, hsweep, hperiod, hlast, rfl, rfl, rfl, hstatistics, heval⟩

/-! ### With no event meanwhile -/

/-- What the stages after classification keep holds after the seven stages when it holds after classification. -/
theorem ClockClosed.sevenStages {Q : State → Prop} (h : ClockClosed Q) {s : State} {sweep : SweepNo}
    {records : Option (List HeadRecord)} (hs : Q (classify sweep records (s.beginEvaluation sweep)).1) :
    Q (s.sevenStages sweep records) := by
  rw [← State.evaluate_nil]
  refine h.evaluate (during := []) (fun _ _ ht => ?_) ?_
  · rw [eventsAt_nil]
    exact ht
  · rw [eventsAt_nil]
    exact hs

theorem classify_intake (sweep : SweepNo) (records : Option (List HeadRecord)) (s : State) :
    (classify sweep records s).1.intake = s.intake := by
  cases records with
  | none =>
    have hfailed : (classify sweep none s).1 = _ := s.failedSweep_eq sweep
    rw [hfailed]
    rfl
  | some records =>
    rw [classify_valid_frame]
    rfl

theorem State.sevenStages_late (s : State) (sweep : SweepNo) (records : Option (List HeadRecord)) :
    (s.sevenStages sweep records).sweepStatistics.late = s.sweepStatistics.late := by
  have hclosed : ClockClosed fun t => t.sweepStatistics.late = s.sweepStatistics.late :=
    { frame := fun t u _ hintake ht => (congrArg Prod.snd hintake).trans ht
      completeHead := fun t r d ht => by simpa using ht }
  exact hclosed.sevenStages (congrArg Prod.snd (classify_intake sweep records (s.beginEvaluation sweep)))

theorem State.sevenStages_commands_nil {s : State} (h : s.commands = []) (sweep : SweepNo)
    (records : Option (List HeadRecord)) : (s.sevenStages sweep records).commands = [] := by
  have hclosed : ClockClosed fun t => t.commands = [] :=
    { frame := fun t u _ hintake ht => (congrArg Prod.fst hintake).trans ht
      completeHead := fun t r d ht => by
        unfold State.completeHead
        rw [ht]
        exact ht }
  exact hclosed.sevenStages ((congrArg Prod.fst (classify_intake sweep records (s.beginEvaluation sweep))).trans h)

/-! ### How a return closes the sweep (R24) -/

theorem judgeReturn_eq_frameCheck_iff (f : InFlight) (ws : List Word) :
    judgeReturn f ws = .frameCheck ↔
      readReturn ws = none ∨ ∃ r, readReturn ws = some r ∧ r.checkGood = false := by
  unfold judgeReturn
  cases hread : readReturn ws with
  | none => simp
  | some r =>
    cases hgood : r.checkGood with
    | false => simp [hgood]
    | true =>
      simp only [hgood, Bool.not_true, Bool.false_eq_true, if_false]
      split_ifs <;> simp [hgood]

theorem judgeReturn_eq_headerMismatch_iff {f : InFlight} {ws : List Word} (h : judgeReturn f ws ≠ .late) :
    judgeReturn f ws = .headerMismatch ↔ ∃ r, readReturn ws = some r ∧ r.checkGood = true ∧
      (r.headerB ≠ ~~~r.headerA ∨ (r.headerA.extractLsb' 0 4).toNat + 1 ≠ f.chainLength) := by
  unfold judgeReturn at h ⊢
  cases hread : readReturn ws with
  | none => simp
  | some r =>
    simp only [hread] at h ⊢
    split_ifs at h ⊢ <;> simp_all

theorem judgeReturn_eq_countMismatch_iff {f : InFlight} {ws : List Word} (h : judgeReturn f ws ≠ .late) :
    judgeReturn f ws = .countMismatch ↔ ∃ r, readReturn ws = some r ∧ r.checkGood = true ∧ r.headerB = ~~~r.headerA ∧
      (r.headerA.extractLsb' 0 4).toNat + 1 = f.chainLength ∧ r.records.length ≠ f.chainLength := by
  unfold judgeReturn at h ⊢
  cases hread : readReturn ws with
  | none => simp
  | some r =>
    simp only [hread] at h ⊢
    split_ifs at h ⊢ <;> simp_all
    tauto

theorem State.countFailure_eq (s : State) {j : Judgement} (h : j ≠ .late) :
    s.countFailure j = { s with sweepStatistics :=
      { s.sweepStatistics with
        frameChecks := if j = .frameCheck then min 4294967295 (s.sweepStatistics.frameChecks + 1)
          else s.sweepStatistics.frameChecks
        headerMismatches := if j = .headerMismatch then min 4294967295 (s.sweepStatistics.headerMismatches + 1)
          else s.sweepStatistics.headerMismatches
        countMismatches := if j = .countMismatch then min 4294967295 (s.sweepStatistics.countMismatches + 1)
          else s.sweepStatistics.countMismatches } } := by
  cases j with
  | late => exact absurd rfl h
  | frameCheck => simp [State.countFailure, saturatingSucc_eq_min, greatest32]
  | headerMismatch => simp [State.countFailure, saturatingSucc_eq_min, greatest32]
  | countMismatch => simp [State.countFailure, saturatingSucc_eq_min, greatest32]
  | valid records => simp [State.countFailure]

theorem State.takeReturn_of_valid {s : State} {f : InFlight} {words : List Word} {records : List HeadRecord}
    (hflight : s.inFlight = some f) (hj : judgeReturn f words = .valid records) (during : During) :
    s.takeReturn words during = s.closeSweep.evaluate f.sweep (some records) during := by
  simp only [State.takeReturn, hflight, hj]

theorem State.takeReturn_of_failed {s : State} {f : InFlight} {words : List Word} (hflight : s.inFlight = some f)
    (hlate : judgeReturn f words ≠ .late) (hvalid : ∀ records, judgeReturn f words ≠ .valid records) (during : During) :
    s.takeReturn words during = (s.countFailure (judgeReturn f words)).closeSweep.evaluate f.sweep none during := by
  cases hj : judgeReturn f words with
  | late => exact absurd hj hlate
  | valid records => exact absurd hj (hvalid records)
  | frameCheck => simp only [State.takeReturn, hflight, hj]
  | headerMismatch => simp only [State.takeReturn, hflight, hj]
  | countMismatch => simp only [State.takeReturn, hflight, hj]

/-! ### An event after the last stage (R27) -/

section LastEvent

variable {m m' : Meanwhile} (h : ∀ p, p ≠ .snapshotCount → m' p = m p)
include h

theorem classify_of_agree (sweep : SweepNo) (records : Option (List HeadRecord)) (s : State) :
    classify sweep records s m' = classify sweep records s m := by
  have hcount := h .failureCount nofun
  have hstale (k : Nat) := h (.headStale k) nofun
  cases records <;> simp only [classify, hcount, hstale]

theorem activationStage_of_agree (sweep : SweepNo) (s : State) : activationStage sweep s m' = activationStage sweep s m := by
  have hreleased (r : Nat) := h (.releasedRow r) nofun
  have hcarried (t : TableSet) : s.carryRows t sweep m' = s.carryRows t sweep m := by
    simp only [State.carryRows, hreleased]
  simp only [activationStage, State.applyActivation, hcarried]

theorem openingStages_of_agree (sweep : SweepNo) (records : Option (List HeadRecord)) (s : State) :
    openingStages sweep records m' s = openingStages sweep records m s := by
  have hbegun := h .begun nofun
  have hclassified := h .classification nofun
  have hactive := h .activation nofun
  simp only [openingStages, hbegun, hclassified, hactive, classify_of_agree h, activationStage_of_agree h]

theorem judgeZone_of_agree (sweep : SweepNo) (arcs : List Nat) (z : Nat) (s : State) :
    judgeZone sweep arcs z s m' = judgeZone sweep arcs z s m := by
  have hjudged := h (.judgedZone z) nofun
  have hreturned (r : Nat) := h (.returnedRow z r) nofun
  simp only [judgeZone, State.enterBlank, hjudged, hreturned]

theorem rowStage_of_agree (sweep : SweepNo) (s : State) : rowStage sweep s m' = rowStage sweep s m := by
  have hrow (r : Nat) := h (.advancedRow r) nofun
  simp only [rowStage, hrow]

theorem blankingStep_of_agree (sweep : SweepNo) (s : State) : blankingStep sweep s m' = blankingStep sweep s m := by
  have hcounted (z : Nat) := h (.countedZone z) nofun
  simp only [blankingStep, hcounted]

theorem resolveArcLine_of_agree (c : Classified) (headZones : List Nat) (s : State) :
    resolveArcLine c headZones s m' = resolveArcLine c headZones s m := by
  have hsampled := h .arcSampled nofun
  unfold resolveArcLine
  rw [hsampled]

theorem arcSteps_of_agree (c : Classified) (rowZones : List Nat) (s : State) :
    arcSteps c rowZones s m' = arcSteps c rowZones s m := by
  have hjudged := h .arcsJudged nofun
  unfold arcSteps
  simp only [judgeZone_of_agree h, resolveArcLine_of_agree h, hjudged]

theorem measuringStages_of_agree (c : Classified) (s : State) : measuringStages c m' s = measuringStages c m s := by
  have hpoint := h .pointUpdate nofun
  have hrows := h .rowAdvance nofun
  have hends := h .blankingEnds nofun
  have hzones := h .zoneStage nofun
  unfold measuringStages
  simp only [rowStage_of_agree h, blankingStep_of_agree h, arcSteps_of_agree h, hpoint, hrows, hends, hzones]

theorem settleStage_of_agree (s : State) : settleStage s m' = settleStage s m := by
  have hlane (l : Nat) := h (.settledLane l) nofun
  have hsettle : settleLane m' = settleLane m := by
    funext p l
    simp only [settleLane, hlane]
  simp only [settleStage, hsettle]

theorem completeStage_of_agree (sweep : SweepNo) (settled : List Settled) (s : State) :
    completeStage sweep settled s m' = completeStage sweep settled s m := by
  have hlane (l : Nat) := h (.completedLane l) nofun
  simp only [completeStage, hlane]

end LastEvent

/-- An event that stands after the last stage is taken from the state that the evaluation leaves. -/
theorem State.evaluate_lastEvent (s : State) (sweep : SweepNo) (records : Option (List HeadRecord)) (during : During)
    (e : MidEvent) :
    s.evaluate sweep records (during ++ [(.snapshotCount, e)]) = midEvent e (s.evaluate sweep records during) := by
  have hagree (p : EvalPoint) (hp : p ≠ .snapshotCount) :
      eventsAt (during ++ [(.snapshotCount, e)]) p = eventsAt during p := by
    funext t
    have hnone : (EvalPoint.snapshotCount == p) = false := beq_eq_false_iff_ne.mpr hp.symm
    simp [eventsAt, hnone]
  have hlast (t : State) : eventsAt (during ++ [(.snapshotCount, e)]) .snapshotCount t =
      midEvent e (eventsAt during .snapshotCount t) := by
    simp [eventsAt]
  have hsettling := hagree .settling nofun
  simp only [State.evaluate, handlingStages, openingStages_of_agree hagree, measuringStages_of_agree hagree,
    settleStage_of_agree hagree, completeStage_of_agree hagree, hsettling, hlast]

/-- While an evaluation is in progress an event's own row is what the event does meanwhile. -/
theorem exec_eventRow {s : State} (hreset : s.inReset = false) (hflight : s.inFlight = none) (e : MidEvent) :
    exec (eventRow e) s = .next (midEvent e s) := by
  have pin (t u : State) : (if s.inReset = true then t else u) = u := if_neg (by simp [hreset])
  cases e with
  | inhibitFall => exact congrArg Host.Outcome.next (pin _ _)
  | inhibitRise => exact congrArg Host.Outcome.next (pin _ _)
  | arcFall => exact congrArg Host.Outcome.next (pin _ _)
  | arcRise => exact congrArg Host.Outcome.next (pin _ _)
  | loopReturn words =>
    refine (exec_sweepReturn hreset words []).trans (congrArg Host.Outcome.next ?_)
    simp only [State.takeReturn, hflight]
    rfl
  | openingMark => exact congrArg Host.Outcome.next (State.unlessReset_of_running hreset _)
  | goodFrame f => exact congrArg Host.Outcome.next (State.unlessReset_of_running hreset _)
  | badFrame => exact congrArg Host.Outcome.next (State.unlessReset_of_running hreset _)
  | missingMark => exact congrArg Host.Outcome.next (State.unlessReset_of_running hreset _)
  | lanePortBoundary => exact congrArg Host.Outcome.next (State.unlessReset_of_running hreset _)
  | returnBoundary => exact congrArg Host.Outcome.next (State.unlessReset_of_running hreset _)

/-! ### The closes of a sweep -/

/-- What the closing of a sweep leaves of the sense loop, whether it is valid or failed. -/
structure State.Closed (s : State) (sweep : SweepNo) (statistics : SweepStatistics) (failures : Nat) (t : State) : Prop where
  inReset : t.inReset = s.inReset
  inFlight : t.inFlight = none
  sweepNumber : t.sweepNumber = s.sweepNumber
  intervalPeriod : t.intervalPeriod = s.intervalPeriod
  lastEvaluation : t.lastEvaluation = sweep
  failures : t.consecutiveFailures = failures
  statistics : { t.sweepStatistics with late := 0 } = { statistics with late := 0 }
  evaluating : t.evaluation.isSome = true

theorem State.Closed.of_same {s s' t : State} {sweep : SweepNo} {statistics : SweepStatistics} {failures : Nat}
    (h : s'.Closed sweep statistics failures t) (hreset : s'.inReset = s.inReset)
    (hnumber : s'.sweepNumber = s.sweepNumber) (hperiod : s'.intervalPeriod = s.intervalPeriod) :
    s.Closed sweep statistics failures t :=
  ⟨h.inReset.trans hreset, h.inFlight, h.sweepNumber.trans hnumber, h.intervalPeriod.trans hperiod, h.lastEvaluation,
    h.failures, h.statistics, h.evaluating⟩

theorem State.closed_of_clock {s t b : State} (h : t.clock = b.clock) (hreset : b.inReset = s.inReset)
    (hflight : b.inFlight = none) (hnumber : b.sweepNumber = s.sweepNumber)
    (hperiod : b.intervalPeriod = s.intervalPeriod) (heval : b.evaluation.isSome = true) :
    s.Closed b.lastEvaluation b.sweepStatistics b.consecutiveFailures t := by
  simp only [State.clock, Prod.mk.injEq] at h
  obtain ⟨hr, hf, hn, hp, hl, hc, -, -, hs, he⟩ := h
  exact ⟨hr.trans hreset, hf.trans hflight, hn.trans hnumber, hp.trans hperiod, hl, hc, hs, he.trans heval⟩

theorem State.evaluate_valid_closed {s : State} (hflight : s.inFlight = none) (sweep : SweepNo)
    (records : List HeadRecord) (during : During) :
    s.Closed sweep s.sweepStatistics 0 (s.evaluate sweep (some records) during) :=
  State.closed_of_clock (s.evaluate_valid_clock sweep records during) rfl hflight rfl rfl rfl

theorem State.evaluate_failed_closed {s : State} (hflight : s.inFlight = none) (sweep : SweepNo) (during : During) :
    s.Closed sweep s.sweepStatistics (min 65535 (s.consecutiveFailures + 1)) (s.evaluate sweep none during) := by
  have hclock := s.evaluate_failed_clock sweep during
  have hbegun := s.begun_clock sweep during
  rw [State.failedSweep_eq] at hclock
  generalize eventsAt during .begun (s.beginEvaluation sweep) = b at hclock hbegun
  simp only [State.clock, Prod.mk.injEq] at hclock hbegun
  obtain ⟨hr, hf, hn, hp, hl, hc, -, -, hs, he⟩ := hclock
  obtain ⟨hr', hf', hn', hp', hl', hc', -, -, hs', he'⟩ := hbegun
  refine ⟨hr.trans hr', hf.trans (hf'.trans hflight), hn.trans hn', hp.trans hp', hl.trans hl', hc.trans ?_,
    hs.trans hs', he.trans he'⟩
  exact congrArg (fun n => min 65535 (n + 1)) hc'

/-- Settles O28: the evaluation leaves what the close has counted, and an event after its last stage is an event on what
it leaves. -/
theorem returnClosesTheSweep : Obligations.ReturnClosesTheSweep := by
  unfold Obligations.ReturnClosesTheSweep
  refine ⟨fun s u words during f e hreset hflight hlate hu => ?_, fun s words during f hreset hflight hlate => ?_⟩
  · rw [exec_sweepReturn hreset] at hu ⊢
    obtain rfl : s.takeReturn words during = u := Host.Outcome.next.inj hu
    by_cases hvalid : ∃ records, judgeReturn f words = .valid records
    · obtain ⟨records, hj⟩ := hvalid
      rw [State.takeReturn_of_valid hflight hj, State.takeReturn_of_valid hflight hj, State.evaluate_lastEvent]
      have hclosed := State.evaluate_valid_closed (s := s.closeSweep) rfl f.sweep records during
      exact (exec_eventRow (hclosed.inReset.trans hreset) hclosed.inFlight e).symm
    · have hfailed (records) : judgeReturn f words ≠ .valid records := fun hj => hvalid ⟨records, hj⟩
      rw [State.takeReturn_of_failed hflight hlate hfailed, State.takeReturn_of_failed hflight hlate hfailed,
        State.evaluate_lastEvent]
      have hclosed := State.evaluate_failed_closed (s := (s.countFailure (judgeReturn f words)).closeSweep) rfl f.sweep during
      rw [State.countFailure_eq _ hlate] at hclosed ⊢
      exact (exec_eventRow (hclosed.inReset.trans hreset) hclosed.inFlight e).symm
  · refine ⟨_, exec_sweepReturn hreset words during, ?_⟩
    have hcounted := s.countFailure_eq hlate
    generalize hstatistics : (s.countFailure (judgeReturn f words)).sweepStatistics = counted
    have hstate : s.countFailure (judgeReturn f words) = { s with sweepStatistics := counted } := by
      rw [← hstatistics, hcounted]
    obtain ⟨failures, hvalidCount, hfailedCount, hclosed⟩ : ∃ failures,
        (∀ records, judgeReturn f words = .valid records → failures = 0) ∧
        ((∀ records, judgeReturn f words ≠ .valid records) → failures = min 65535 (s.consecutiveFailures + 1)) ∧
        s.Closed f.sweep counted failures (s.takeReturn words during) := by
      by_cases hvalid : ∃ records, judgeReturn f words = .valid records
      · obtain ⟨records, hj⟩ := hvalid
        refine ⟨0, fun _ _ => rfl, fun hfailed => absurd hj (hfailed records), ?_⟩
        rw [← hstatistics, State.takeReturn_of_valid hflight hj, hj]
        exact (State.evaluate_valid_closed (s := s.closeSweep) rfl f.sweep records during).of_same rfl rfl rfl
      · refine ⟨_, fun records hj => absurd ⟨records, hj⟩ hvalid, fun _ => rfl, ?_⟩
        rw [State.takeReturn_of_failed hflight hlate (fun records hj => hvalid ⟨records, hj⟩), hstate]
        exact (State.evaluate_failed_closed (s := State.closeSweep { s with sweepStatistics := counted }) rfl f.sweep
          during).of_same rfl rfl rfl
    rw [hcounted] at hstatistics
    refine ⟨hclosed.inFlight, hclosed.evaluating, hclosed.lastEvaluation, hclosed.sweepNumber, ?_, ?_, ?_, ?_, ?_,
      fun records hj => ?_, fun hfailed => ?_, ?_⟩
    · exact (congrArg SweepStatistics.timeouts hclosed.statistics).trans (by rw [← hstatistics])
    · exact (congrArg SweepStatistics.launched hclosed.statistics).trans (by rw [← hstatistics])
    · refine (congrArg SweepStatistics.frameChecks hclosed.statistics).trans ?_
      rw [← hstatistics]
      exact if_congr (judgeReturn_eq_frameCheck_iff f words) rfl rfl
    · refine (congrArg SweepStatistics.headerMismatches hclosed.statistics).trans ?_
      rw [← hstatistics]
      exact if_congr (judgeReturn_eq_headerMismatch_iff hlate) rfl rfl
    · refine (congrArg SweepStatistics.countMismatches hclosed.statistics).trans ?_
      rw [← hstatistics]
      exact if_congr (judgeReturn_eq_countMismatch_iff hlate) rfl rfl
    · exact hclosed.failures.trans (hvalidCount records hj)
    · exact hclosed.failures.trans (hfailedCount hfailed)
    · rintro rfl
      refine ⟨fun records hj => ?_, fun hfailed => ?_⟩
      · rw [State.takeReturn_of_valid hflight hj, State.evaluate_nil, State.closeSweep]
      · have htake := State.takeReturn_of_failed hflight hlate hfailed []
        rw [hstate, State.evaluate_nil, State.closeSweep] at htake
        have hall : (s.takeReturn words []).sweepStatistics = counted := by
          have hlateCount : (s.takeReturn words []).sweepStatistics.late = counted.late := by
            rw [htake, State.sevenStages_late]
          have hothers := hclosed.statistics
          generalize (s.takeReturn words []).sweepStatistics = x at hlateCount hothers
          cases x
          cases counted
          simp_all
        rw [hall]
        exact htake

/-! ### What no command moves -/

/-- The sweep numbers, the statistics, the interval and the evaluation in progress: no command that is taken moves them. -/
def State.sweeps (s : State) := (s.sweepStatistics, s.lastEvaluation, s.evaluation, s.sweepNumber, s.intervalPeriod)

theorem State.queueNotice_sweeps (s : State) (n : Notice) : (s.queueNotice n).sweeps = s.sweeps := by simp [State.sweeps]

theorem State.queueNotice?_sweeps (s : State) (n : Option Notice) : (s.queueNotice? n).sweeps = s.sweeps := by
  simp [State.sweeps]

theorem State.completeHead_sweeps (s : State) (r : ReplyResult) (d : ReplyData) :
    (s.completeHead r d).sweeps = s.sweeps := by
  simp [State.sweeps]

theorem State.changeLane_sweeps (s : State) (l : Nat) (v : Lane) : (s.changeLane l v).sweeps = s.sweeps :=
  State.queueNotice?_sweeps _ _

theorem foldl_sweeps {α β : Type} {f : State × β → α → State × β} (hf : ∀ p a, (f p a).1.sweeps = p.1.sweeps)
    (as : List α) (p : State × β) : (as.foldl f p).1.sweeps = p.1.sweeps := by
  induction as generalizing p with
  | nil => rfl
  | cons a as ih => exact (ih (f p a)).trans (hf p a)

theorem takeLoad_sweeps (part index definedWord : Word) (fields : List Word) (s : State) :
    (takeLoad part index definedWord fields s).1.sweeps = s.sweeps := by
  have hentry (count : Nat) (part : Word) (write : Nat → Option TableSet) :
      (loadEntry s count part index write).1.sweeps = s.sweeps := by
    unfold loadEntry
    split
    · split <;> rfl
    · rfl
  unfold takeLoad
  split
  iterate 7 exact hentry _ _ _
  rfl

theorem takeSite_sweeps (fields : List Word) (s : State) : (takeSite fields s).1.sweeps = s.sweeps := by
  unfold takeSite
  split
  · rfl
  · split
    · exact forEach_keeps (P := fun t => t.sweeps = s.sweeps) (fun _ _ _ ht => ht) rfl
    · rfl

theorem takeActivate_sweeps (s : State) : (takeActivate s).1.sweeps = s.sweeps := by
  unfold takeActivate
  split
  · rfl
  · dsimp only
    split <;> rfl

theorem State.requestOnOff_sweeps (s : State) (l onWord : Nat) : (s.requestOnOff l onWord).sweeps = s.sweeps := by
  have hon : (s.requestOn l).sweeps = s.sweeps := by
    unfold State.requestOn
    dsimp only
    split
    · split <;> exact State.changeLane_sweeps _ _ _
    · rfl
  have hoff : (s.requestOff l).sweeps = s.sweeps := by
    unfold State.requestOff
    dsimp only
    split
    · rfl
    · exact State.changeLane_sweeps _ _ _
  unfold State.requestOnOff
  split_ifs
  · exact hon
  · exact hoff
  · rfl

theorem takeLane_sweeps (lane onWord modeWord given setpoint : Nat) (s : State) :
    (takeLane lane onWord modeWord given setpoint s).1.sweeps = s.sweeps := by
  unfold takeLane
  split_ifs
  iterate 3 rfl
  exact State.requestOnOff_sweeps _ _ _

theorem clearRow_sweeps (atTaking : State) (seenOption : Bool) (r : Nat) (p : State × ClearTally) :
    (clearRow atTaking seenOption r p).1.sweeps = p.1.sweeps := by
  unfold clearRow
  split
  · dsimp only
    split
    · split <;> rfl
    · rfl
    · split
      · split
        · exact State.queueNotice_sweeps _ _
        · rfl
      · rfl
  · rfl

theorem clearLane_sweeps (l : Nat) (p : State × ClearTally) : (clearLane l p).1.sweeps = p.1.sweeps := by
  unfold clearLane
  dsimp only
  split_ifs
  · rfl
  · exact State.changeLane_sweeps _ _ _
  iterate 3 rfl

theorem clearZone_sweeps (z : Nat) (p : State × ClearTally) : (clearZone z p).1.sweeps = p.1.sweeps := by
  have hlane (q : State × ClearTally) (l : Nat) : (clearZoneLane l q).1.sweeps = q.1.sweeps := by
    unfold clearZoneLane
    dsimp only
    split
    · exact State.changeLane_sweeps _ _ _
    · rfl
  unfold clearZone
  dsimp only
  split_ifs
  · rfl
  · exact (foldl_sweeps hlane _ _).trans (State.queueNotice_sweeps _ _)
  · rfl

theorem takeClear_sweeps (seenOption : Word) (rows : List Word) (lanes zones : Word) (s : State) :
    (takeClear seenOption rows lanes zones s).1.sweeps = s.sweeps := by
  unfold takeClear
  dsimp only
  split
  · rfl
  · refine (foldl_sweeps (fun p l => clearLane_sweeps l p) _ _).trans ?_
    refine (foldl_sweeps (fun p z => clearZone_sweeps z p) _ _).trans ?_
    exact foldl_sweeps (fun p r => clearRow_sweeps s (seenOption == 1) r p) _ _

theorem takeCommand_sweeps (c : Command) (s : State) : (takeCommand c s).1.sweeps = s.sweeps := by
  cases c with
  | load part index definedWord fields => exact takeLoad_sweeps part index definedWord fields s
  | discard => rfl
  | activate => exact takeActivate_sweeps s
  | site fields => exact takeSite_sweeps fields s
  | lane lane onWord modeWord given setpoint => exact takeLane_sweeps _ _ _ _ _ s
  | clear seenOption r0 r1 r2 r3 lanes zones => exact takeClear_sweeps _ _ _ _ s
  | read item index part =>
    show (takeRead item index part s).1.sweeps = s.sweeps
    obtain h | h := takeRead_state item index part s <;> rw [h]
    rfl
  | restart => rfl
  | unknown => rfl

theorem State.takeCommands_sweeps (fuel : Nat) (s : State) : (s.takeCommands fuel).sweeps = s.sweeps := by
  induction fuel generalizing s with
  | zero => rfl
  | succ fuel ih =>
    unfold State.takeCommands
    split
    · rfl
    · split
      · rfl
      · rename_i c _ _
        have taken := takeCommand_sweeps (decodeCommand c.payload) s
        split
        · rename_i s' h
          rwa [h] at taken
        · rename_i s' r d h
          rw [h] at taken
          exact (ih _).trans ((s'.completeHead_sweeps r d).trans taken)

theorem State.drainCommands_sweeps (s : State) : s.drainCommands.sweeps = s.sweeps := s.takeCommands_sweeps _

/-! ### A tick that finds a sweep in flight (R26) -/

theorem State.endEvaluation_of_some {s : State} (h : s.evaluation.isSome = true) :
    s.endEvaluation.evaluation = none ∧ s.endEvaluation.sweepStatistics = s.sweepStatistics ∧
    s.endEvaluation.lastEvaluation = s.lastEvaluation ∧ s.endEvaluation.sweepNumber = s.sweepNumber ∧
    s.endEvaluation.intervalPeriod = s.intervalPeriod ∧ s.endEvaluation.commands = s.commands ∧
    s.endEvaluation.consecutiveFailures = s.consecutiveFailures ∧ s.endEvaluation.senseBlind = s.senseBlind ∧
    s.endEvaluation.blindMute = s.blindMute := by
  obtain ⟨e, he⟩ := Option.isSome_iff_exists.mp h
  unfold State.endEvaluation
  rw [he]
  dsimp only [State.removeArcLine]
  split_ifs <;> exact ⟨rfl, rfl, rfl, rfl, rfl, rfl, rfl, rfl, rfl⟩

theorem State.tick_of_inFlight {s : State} {f : InFlight} (heval : s.evaluation = none) (hflight : s.inFlight = some f)
    (during : During) :
    s.tick during =
      (s.beginInterval.countTimeout.closeSweep.evaluate f.sweep none during).endEvaluation.launch.drainCommands := by
  have hf : s.beginInterval.inFlight = some f := hflight
  unfold State.tick
  rw [State.completeEvaluation_of_none heval]
  simp only [hf]

theorem State.sevenStages_failed (s : State) (sweep : SweepNo) :
    (s.sevenStages sweep none).consecutiveFailures = s.failuresAfter ∧
    (s.sevenStages sweep none).senseBlind = (s.senseBlind || decide (s.siteRecord.failLimit ≤ s.failuresAfter)) ∧
    (s.sevenStages sweep none).blindMute = (s.blindMute ||
      decide (s.siteRecord.failLimit + s.activeSet.parameters.blindMuteCount ≤ s.failuresAfter)) := by
  have hclock := s.evaluate_failed_clock sweep []
  rw [State.evaluate_nil, eventsAt_nil, State.failedSweep_eq] at hclock
  simp only [State.clock, Prod.mk.injEq] at hclock
  obtain ⟨-, -, -, -, -, hfailures, hblind, hmute, -, -⟩ := hclock
  exact ⟨hfailures, hblind, hmute⟩

theorem State.drainCommands_of_none {s : State} (h : s.commands = []) : s.drainCommands = s := by
  unfold State.drainCommands
  rw [h]
  rfl

theorem State.drainCommands_of_holds {s : State} (h : s.holdsCommands = true) : s.drainCommands = s :=
  State.takeCommands_of_holds h _

/-- Settles O26: the evaluation leaves what the close has counted, its end and the launch follow, and no command that is
then taken moves a sweep's number or statistic. -/
theorem tickTimesOutTheSweepInFlight : Obligations.TickTimesOutTheSweepInFlight := by
  unfold Obligations.TickTimesOutTheSweepInFlight
  intro s during f hreset heval hflight
  refine ⟨_, exec_sweepTick hreset during, ?_⟩
  rw [State.tick_of_inFlight heval hflight]
  have hclosed := State.evaluate_failed_closed (s := s.beginInterval.countTimeout.closeSweep) rfl f.sweep during
  generalize he : s.beginInterval.countTimeout.closeSweep.evaluate f.sweep none during = e at hclosed
  obtain ⟨hnone, hstatistics, hlast, hnumber, hperiod, hcommands, hfailures, hblind, hmute⟩ :=
    State.endEvaluation_of_some hclosed.evaluating
  have hdrain := e.endEvaluation.launch.drainCommands_sweeps
  simp only [State.sweeps, Prod.mk.injEq] at hdrain
  obtain ⟨hdstatistics, hdlast, hdevaluation, hdnumber, hdperiod⟩ := hdrain
  have htimeouts := congrArg SweepStatistics.timeouts hclosed.statistics
  have hlaunched := congrArg SweepStatistics.launched hclosed.statistics
  refine ⟨?_, ?_, ?_, ?_, ?_, ?_, ?_⟩
  · rw [hdstatistics]
    refine (congrArg SweepStatistics.timeouts hstatistics).trans (htimeouts.trans ?_)
    exact saturatingSucc_eq_min _ _
  · rw [hdstatistics]
    refine (saturatingSucc_eq_min _ _).trans ?_
    rw [hstatistics]
    exact congrArg (fun n => min 4294967295 (n + 1)) hlaunched
  · exact hdlast.trans (hlast.trans hclosed.lastEvaluation)
  · exact hdevaluation.trans hnone
  · exact hdnumber.trans (congrArg (· + 1) (hnumber.trans hclosed.sweepNumber))
  · exact hdperiod.trans (hperiod.trans hclosed.intervalPeriod)
  · rintro rfl
    intro closed failures launched
    have hX : s.beginInterval.countTimeout.closeSweep = closed := by
      unfold State.countTimeout
      rw [saturatingSucc_eq_min]
      rfl
    rw [hX, State.evaluate_nil] at he
    have hl : e.endEvaluation.launch = launched := by rw [← he]
    obtain ⟨hf, hb, hm⟩ := closed.sevenStages_failed f.sweep
    rw [he] at hf hb hm
    rw [hl]
    refine ⟨rfl, fun hheld => ?_, ?_, ?_, ?_, ?_⟩
    · obtain hempty | hwaits := hheld
      · refine State.drainCommands_of_none ?_
        rw [← hl]
        refine hcommands.trans ?_
        rw [← he]
        exact State.sevenStages_commands_nil (s := closed) hempty f.sweep none
      · refine State.drainCommands_of_holds ?_
        simp [State.holdsCommands, State.activationPending, hwaits]
    · rw [← hl]
      exact hfailures.trans hf
    · rw [← hl]
      exact hblind.trans hb
    · rw [← hl]
      exact hmute.trans hm
    · rw [← hl]
      exact ⟨_, rfl, congrArg (· + 1) (hnumber.trans hclosed.sweepNumber)⟩

end Sys2Proof.Machine

/-! PROOFS. Points that read a head, row advance and the phase machine (chapters 3 and 4). -/

namespace Sys2Proof.Machine

/-! ### Points that read a head (R39 to R43, R46) -/

theorem convertRaw_eq (kind : PointKind) (raw gain : Nat) (offset : Int) :
    convertRaw kind raw gain offset =
      (max 0 (min (kind.maximum : Int) (((raw * gain / 4096 : Nat) : Int) + offset))).toNat := by
  unfold convertRaw clampInt
  congr 1
  split_ifs <;> omega

theorem rawReading_eq_some {r : HeadRecord} {input : Nat} {fold : Fold} {raw : Nat} {overRange : Bool}
    (h : Obtained r input fold raw overRange) : rawReading r input fold = some (raw, overRange) := by
  obtain ⟨hmode, rfl, rfl⟩ | ⟨hmode, hinput, rfl, rfl⟩ := h
  · simp only [rawReading, hmode]
  · simp only [rawReading, hmode, hinput, if_true]
    cases fold <;> rfl

theorem rawReading_of_unsampled {r : HeadRecord} {input : Nat} (hmode : r.mode = .quad) (hinput : r.quadInput ≠ input)
    (fold : Fold) : rawReading r input fold = none := by
  simp only [rawReading, hmode, if_neg hinput]

section HeadPoint

variable {e : PointEntry} {position input gain : Nat} {fold : Fold} {offset : Int}
  (hsource : e.source = .head position input fold gain offset)
include hsource

theorem firstPass_of_no_fresh {c : Classified} (hrecord : c.record position = none) (p : PointRecord) :
    firstPass c (some e) (some p) = some p.unfresh := by
  obtain ⟨kind, scope, source⟩ := e
  cases hsource
  simp only [firstPass, hrecord]

theorem firstPass_of_fresh {c : Classified} {r : HeadRecord} (hrecord : c.record position = some r) (p : PointRecord) :
    firstPass c (some e) (some p) = some (convertPoint e.kind input fold gain offset r p) := by
  obtain ⟨kind, scope, source⟩ := e
  cases hsource
  simp only [firstPass, hrecord]

/-- A point that reads a head keeps what its first pass gives it. -/
theorem pointStage_of_head {s : State} {i : Nat} (hentry : s.activeSet.point i = some e) (c : Classified) :
    (pointStage c s).pointRecord i = firstPass c (some e) (s.pointRecord i) := by
  rw [pointStage_of_not_ratio fun d hd a b hratio => ?_, hentry]
  obtain rfl : e = d := Option.some.inj (hentry.symm.trans hd)
  exact absurd (hsource.symm.trans hratio) nofun

end HeadPoint

theorem PointRecord.unfresh_not_valid (p : PointRecord) : p.unfresh.state ≠ .valid := by
  rw [PointRecord.unfresh_eq]
  dsimp only
  split <;> nofun

/-- A head's point without a fresh record is not VALID, and neither is one that has no record. -/
theorem firstPass_not_valid {d : PointEntry} {position input gain : Nat} {fold : Fold} {offset : Int}
    (hsource : d.source = .head position input fold gain offset) {c : Classified} (hrecord : c.record position = none)
    (p : Option PointRecord) : ((firstPass c (some d) p).getD PointRecord.initial).state ≠ .valid := by
  cases p with
  | none =>
    rw [firstPass_no_record]
    nofun
  | some p =>
    rw [firstPass_of_no_fresh hsource hrecord]
    exact p.unfresh_not_valid

/-- Settles O31: the first pass on a head's point, and a RATIO point that such a point leaves without a VALID source. -/
theorem failedSweepLeavesPointsStale : Obligations.FailedSweepLeavesPointsStale := by
  unfold Obligations.FailedSweepLeavesPointsStale
  refine ⟨fun s c i e p hentry hp hno => ?_,
    fun s c i e p r position input gain fold offset hentry hp hsource hrecord => ?_⟩
  · rw [← p.unfresh_eq]
    obtain ⟨position, input, fold, gain, offset, hsource, hrecord⟩ |
      ⟨f, g, j, d, position, input, fold, gain, offset, hratio, hj, hd, hsource, hrecord⟩ := hno
    · rw [pointStage_of_head hsource hentry, hp, firstPass_of_no_fresh hsource hrecord]
    · rw [pointStage_of_ratio hentry hratio hp]
      refine congrArg some (ratioPoint_of_source_not_valid ?_ _ p)
      have hnot := firstPass_not_valid hsource hrecord (s.pointRecord j)
      rw [← hd] at hnot
      obtain rfl | rfl := hj
      · exact .inl hnot
      · exact .inr hnot
  · intro greatest
    have hgreatest : e.kind.maximum = greatest := by cases hkind : e.kind <;> simp only [greatest, hkind] <;> rfl
    rw [pointStage_of_head hsource hentry, hp, firstPass_of_fresh hsource hrecord]
    refine ⟨fun raw overRange hobtained => ?_, fun hmode hinput => ?_⟩
    · simp only [convertPoint, rawReading_eq_some hobtained, convertRaw_eq, hgreatest]
    · simp only [convertPoint, rawReading_of_unsampled hmode hinput, p.unfresh_eq]

/-! ### Advancing or frozen (R57 to R59) -/

theorem TableSet.mem_members {t : TableSet} {lanes z l : Nat} :
    l ∈ t.members lanes z ↔ l < lanes ∧ t.zoneOf l = some z := by
  simp [TableSet.members, TableSet.isMember]

theorem State.settledOn_iff (s : State) (ls : List Nat) :
    s.settledOn ls = true ↔
      (∀ l ∈ ls, (s.lane l).state = .off ∨ (s.lane l).state = .on) ∧ ∃ l ∈ ls, (s.lane l).state = .on := by
  simp [State.settledOn]

theorem State.gatingSatisfied_iff (s : State) (d : RowEntry) : s.gatingSatisfied d = true ↔ s.GatingHolds d := by
  unfold State.gatingSatisfied State.GatingHolds
  cases d.gated with
  | false => simp
  | true =>
    cases d.scope with
    | lane l => simp
    | zone z => simp [State.settledOn_iff, TableSet.mem_members, and_assoc]
    | site => simp [State.settledOn_iff]

theorem State.advanceValue_eq_some {s : State} {d : RowEntry} {v : Nat} :
    s.advanceValue d = some v ↔
      (s.pointOrNone d.source).state = .valid ∧ (s.pointOrNone d.source).noisy = false ∧ s.GatingHolds d ∧
        (s.pointOrNone d.source).value = some v := by
  simp only [State.advanceValue, ← State.gatingSatisfied_iff]
  split
  case isTrue h => simp [h]
  case isFalse h => exact ⟨nofun, fun ⟨hvalid, hquiet, hgate, _⟩ => absurd ⟨hvalid, hquiet, hgate⟩ h⟩

theorem State.advanceValue_of_frozen {s : State} {d : RowEntry}
    (h : (s.pointOrNone d.source).state ≠ .valid ∨ (s.pointOrNone d.source).noisy = true ∨ ¬ s.GatingHolds d) :
    s.advanceValue d = none := by
  refine Option.eq_none_iff_forall_ne_some.mpr fun v hv => ?_
  obtain ⟨hvalid, hquiet, hgate, -⟩ := State.advanceValue_eq_some.mp hv
  obtain hstate | hnoisy | hgating := h
  · exact hstate hvalid
  · exact absurd (hquiet.symm.trans hnoisy) (by decide)
  · exact hgating hgate

theorem State.rowScale_eq_some {s : State} {d : RowEntry} {level : Nat} :
    s.rowScale d = some level ↔ s.ScaledBy d level := by
  unfold State.rowScale State.ScaledBy
  cases hscope : d.scope with
  | zone z => simp
  | site => simp
  | lane l =>
    cases hpoint : s.activeSet.point d.source with
    | none => simp
    | some e =>
      dsimp only
      split
      case isTrue h =>
        obtain ⟨hscaled, hkind, hmode⟩ := h
        simp only [Option.map_eq_some_iff]
        refine ⟨fun ⟨p, hp, hlevel⟩ => ⟨hscaled, l, e, p, rfl, rfl, hkind, hmode, hp, hlevel.symm⟩, ?_⟩
        rintro ⟨-, l', e', p, hl, -, -, -, hp, rfl⟩
        obtain rfl := Scope.lane.inj hl
        exact ⟨p, hp, rfl⟩
      case isFalse h =>
        refine ⟨nofun, ?_⟩
        rintro ⟨hscaled, l', e', p, hl, he, hkind, hmode, -, -⟩
        obtain rfl := Scope.lane.inj hl
        obtain rfl := Option.some.inj he
        exact absurd ⟨hscaled, hkind, hmode⟩ h

theorem State.rowOutcome_of_comparesWith {s : State} {d : RowEntry} {threshold release : Nat}
    (h : s.ComparesWith d threshold release) (v : Nat) : s.rowOutcome d v = compareRow d.sense threshold release v := by
  obtain ⟨level, hlevel, rfl, rfl⟩ | ⟨hnone, rfl, rfl⟩ := h
  · simp only [State.rowOutcome, State.rowScale_eq_some.mpr hlevel]
    rfl
  · have hscale : s.rowScale d = none :=
      Option.eq_none_iff_forall_ne_some.mpr fun level hlevel => hnone level (State.rowScale_eq_some.mp hlevel)
    simp only [State.rowOutcome, hscale]

theorem State.rowStep_of_frozen {s : State} {r : Nat} {d : RowEntry} (hrow : s.activeSet.row r = some d)
    (hfrozen : s.advanceValue d = none) (sweep : SweepNo) (q : RowRuntime) : s.rowStep sweep r q = (q, .none) := by
  simp only [State.rowStep, hrow, hfrozen]

theorem State.rowStep_of_advances {s : State} {r : Nat} {d : RowEntry} {v : Nat} {o : Outcome}
    (hrow : s.activeSet.row r = some d) (h : s.Advances d v o) (sweep : SweepNo) (q : RowRuntime) :
    s.rowStep sweep r q = advanceRow s.activeSet sweep d q v o := by
  obtain ⟨hvalid, hquiet, hvalue, hgate, threshold, release, hcompares, ho⟩ := h
  have houtcome : s.rowOutcome d v = o := by
    rw [State.rowOutcome_of_comparesWith hcompares, ho]
    unfold compareRow
    rfl
  simp only [State.rowStep, hrow, State.advanceValue_eq_some.mpr ⟨hvalid, hquiet, hgate, hvalue⟩, houtcome]

/-! ### The stage (R56) -/

theorem State.queueEach_undisturbed (s : State) (is : List Nat) (notice : Nat → Option Notice) (place : Nat → EvalPoint) :
    s.queueEach is notice (fun i => undisturbed (place i)) = s.queuing (is.filterMap notice) := by
  unfold State.queueEach
  induction is generalizing s with
  | nil => rfl
  | cons i is ih =>
    have hstep : forEach (i :: is) (fun i s => undisturbed (place i) (s.queueNotice? (notice i))) s =
        forEach is (fun i s => undisturbed (place i) (s.queueNotice? (notice i))) (s.queueNotice? (notice i)) := rfl
    rw [hstep, ih, List.filterMap_cons]
    cases notice i <;> rfl

theorem rowStage_eq (s : State) (sweep : SweepNo) :
    (rowStage sweep s).1 = State.withNotices
      { s with rowRuntimes := s.rowRuntimes.zipIdx.map fun (q, r) => q.map fun q => (s.rowStep sweep r q).1 }
      (s.queuing ((List.range rowCount).filterMap (s.rowStepNotice sweep))) := by
  refine (State.queueEach_undisturbed _ _ _ EvalPoint.advancedRow).trans ?_
  exact State.queuing_eq_withNotices (q := s) (by exact ⟨rfl, rfl, rfl⟩) _

theorem State.eq_of_rowRuntimes {s t q : State} {rows : List (Option RowRuntime)}
    (h : t = State.withNotices { s with rowRuntimes := rows } q) :
    t = { s with
      rowRuntimes := t.rowRuntimes, notices := t.notices, noticesDropped := t.noticesDropped
      droppedCount := t.droppedCount } := by
  subst h
  rfl

theorem rowStage_rowRuntime (s : State) (sweep : SweepNo) (r : Nat) :
    (rowStage sweep s).1.rowRuntime r = (s.rowRuntime r).map fun q => (s.rowStep sweep r q).1 := by
  rw [rowStage_eq]
  exact getD_zipIdx_map (fun r q => q.map fun q => (s.rowStep sweep r q).1) (fun _ => rfl) s.rowRuntimes r

section RowStepNotice

variable {s : State} {r : Nat} {d : RowEntry} {q : RowRuntime} (hrow : s.activeSet.row r = some d)
  (hq : s.rowRuntime r = some q) (sweep : SweepNo)
include hrow hq

theorem State.rowStepNotice_eq :
    s.rowStepNotice sweep r =
      if d.report = .alert ∧ (s.rowStep sweep r q).2 ≠ .none then
        some (rowNotice r (s.rowStep sweep r q).1.phase (s.rowStep sweep r q).1.latched (s.advanceValue d) sweep)
      else none := by
  simp only [State.rowStepNotice, hrow, hq]

end RowStepNotice

/-- Settles O33: a frozen row's step is no step, and any other row's is `advanceRow`. -/
theorem frozenRowKeepsItsRuntime : Obligations.FrozenRowKeepsItsRuntime := by
  unfold Obligations.FrozenRowKeepsItsRuntime
  intro s sweep t
  have ht := rowStage_eq s sweep
  refine ⟨fun r d q hrow hq => ⟨fun hfrozen => ?_, fun v o hadvances => ?_⟩, fun r hnone => ?_, ?_, ?_⟩
  · have hstep := State.rowStep_of_frozen hrow (State.advanceValue_of_frozen hfrozen) sweep q
    refine ⟨?_, ?_⟩
    · refine (rowStage_rowRuntime s sweep r).trans ?_
      rw [hq, Option.map_some, hstep]
    · rw [State.rowStepNotice_eq hrow hq, hstep, if_neg fun h => h.2 rfl]
  · have hstep := State.rowStep_of_advances hrow hadvances sweep q
    obtain ⟨hvalid, hquiet, hvalue, hgate, -⟩ := hadvances
    intro p
    refine ⟨?_, fun halert hchange => ?_, fun hsilent => ?_⟩
    · refine (rowStage_rowRuntime s sweep r).trans ?_
      rw [hq, Option.map_some, hstep]
    · rw [State.rowStepNotice_eq hrow hq, hstep, if_pos ⟨halert, hchange⟩,
        State.advanceValue_eq_some.mpr ⟨hvalid, hquiet, hgate, hvalue⟩]
      rfl
    · rw [State.rowStepNotice_eq hrow hq, hstep, if_neg]
      rintro ⟨halert, hchange⟩
      obtain hreport | hsame := hsilent
      · exact absurd (halert.symm.trans hreport) nofun
      · exact hchange hsame
  · refine ⟨(rowStage_rowRuntime s sweep r).trans ?_, ?_⟩
    · cases hq : s.rowRuntime r with
      | none => rfl
      | some q =>
        obtain hrow | hnoq := hnone
        · simp only [Option.map_some, State.rowStep, hrow]
        · exact absurd (hq.symm.trans hnoq) nofun
    · unfold State.rowStepNotice
      obtain hrow | hnoq := hnone
      · simp only [hrow]
      · cases s.activeSet.row r <;> simp only [hnoq]
  · exact State.eq_of_rowRuntimes ht
  · rw [show t = _ from ht]
    exact State.noticesOf_withNotices _ _

/-! ### The phase machine (R60 to R66) -/

theorem phaseAfter_of_qualifying (d : RowEntry) {n k : Nat} (h : k + n ≤ d.qualifyCount) (hn : 1 ≤ n ∨ k < d.qualifyCount) :
    phaseAfter d .crossing n (.pending, k) = if k + n = d.qualifyCount then (.asserted, 0) else (.pending, k + n) := by
  induction n generalizing k with
  | zero => rw [if_neg (by omega)]; rfl
  | succ n ih =>
    unfold phaseAfter
    by_cases hlast : d.qualifyCount ≤ k + 1
    · obtain rfl : n = 0 := by omega
      rw [if_pos (by omega)]
      simp [phaseStep, hlast, phaseAfter]
    · have hstep : phaseStep d .pending k .crossing = (.pending, k + 1, .none) := by simp [phaseStep, hlast]
      rw [hstep]
      dsimp only
      rw [ih (by omega) (by omega)]
      simp only [Nat.add_assoc, Nat.add_comm 1 n]

theorem phaseAfter_of_releasing (d : RowEntry) {n k : Nat} (h : k + n ≤ d.releaseCount) (hn : 1 ≤ n ∨ k < d.releaseCount) :
    phaseAfter d .release n (.clearing, k) = if k + n = d.releaseCount then (.idle, 0) else (.clearing, k + n) := by
  induction n generalizing k with
  | zero => rw [if_neg (by omega)]; rfl
  | succ n ih =>
    unfold phaseAfter
    by_cases hlast : d.releaseCount ≤ k + 1
    · obtain rfl : n = 0 := by omega
      rw [if_pos (by omega)]
      simp [phaseStep, hlast, phaseAfter]
    · have hstep : phaseStep d .clearing k .release = (.clearing, k + 1, .none) := by simp [phaseStep, hlast]
      rw [hstep]
      dsimp only
      rw [ih (by omega) (by omega)]
      simp only [Nat.add_assoc, Nat.add_comm 1 n]

/-- Exactly the qualify count of crossings in a row asserts a row from IDLE. -/
theorem phaseAfter_idle_crossing (d : RowEntry) {n : Nat} (hpos : 1 ≤ n) (hle : n ≤ d.qualifyCount) :
    phaseAfter d .crossing n (.idle, 0) = if n = d.qualifyCount then (.asserted, 0) else (.pending, n) := by
  obtain ⟨n, rfl⟩ : ∃ k, n = k + 1 := ⟨n - 1, by omega⟩
  unfold phaseAfter
  by_cases hone : d.qualifyCount ≤ 1
  · obtain rfl : n = 0 := by omega
    rw [if_pos (by omega)]
    simp [phaseStep, hone, phaseAfter]
  · have hstep : phaseStep d .idle 0 .crossing = (.pending, 1, .none) := by simp [phaseStep, hone]
    rw [hstep]
    dsimp only
    rw [phaseAfter_of_qualifying d (by omega) (by omega)]
    simp only [Nat.add_comm 1 n]

/-- Exactly the release count of releases in a row returns a row from ASSERTED. -/
theorem phaseAfter_asserted_release (d : RowEntry) {n : Nat} (hpos : 1 ≤ n) (hle : n ≤ d.releaseCount) :
    phaseAfter d .release n (.asserted, 0) = if n = d.releaseCount then (.idle, 0) else (.clearing, n) := by
  obtain ⟨n, rfl⟩ : ∃ k, n = k + 1 := ⟨n - 1, by omega⟩
  unfold phaseAfter
  by_cases hone : d.releaseCount ≤ 1
  · obtain rfl : n = 0 := by omega
    rw [if_pos (by omega)]
    simp [phaseStep, hone, phaseAfter]
  · have hstep : phaseStep d .asserted 0 .release = (.clearing, 1, .none) := by simp [phaseStep, hone]
    rw [hstep]
    dsimp only
    rw [phaseAfter_of_releasing d (by omega) (by omega)]
    simp only [Nat.add_comm 1 n]

/-- A row's runtime as an advance leaves it, before the ceiling in force. -/
def RowRuntime.advanced (q : RowRuntime) (d : RowEntry) (sweep : SweepNo) (v : Nat) (o : Outcome) : RowRuntime :=
  let moved : RowRuntime :=
    { q with
      extreme := some (extremeAfter d.sense q.extreme v), phase := (phaseStep d q.phase q.progress o).1
      progress := (phaseStep d q.phase q.progress o).2.1 }
  if (phaseStep d q.phase q.progress o).2.2 = .asserted then moved.assert d sweep else moved

theorem advanceRow_eq (t : TableSet) (sweep : SweepNo) (d : RowEntry) (q : RowRuntime) (v : Nat) (o : Outcome) :
    advanceRow t sweep d q v o =
      ({ q.advanced d sweep v o with ceilingInForce := ceilingAfter t d (q.advanced d sweep v o) v },
        (phaseStep d q.phase q.progress o).2.2) := rfl

section Advanced

variable (q : RowRuntime) (d : RowEntry) (sweep : SweepNo) (v : Nat) (o : Outcome)

theorem RowRuntime.advanced_moves :
    (q.advanced d sweep v o).phase = (phaseStep d q.phase q.progress o).1 ∧
    (q.advanced d sweep v o).progress = (phaseStep d q.phase q.progress o).2.1 ∧
    (q.advanced d sweep v o).extreme = some (extremeAfter d.sense q.extreme v) ∧
    (q.advanced d sweep v o).ceilingInForce = q.ceilingInForce := by
  unfold RowRuntime.advanced
  dsimp only
  split <;> exact ⟨rfl, rfl, rfl, rfl⟩

theorem RowRuntime.advanced_of_asserted (h : (phaseStep d q.phase q.progress o).2.2 = .asserted) :
    (q.advanced d sweep v o).latched = (q.latched || d.latch == .latch) ∧ (q.advanced d sweep v o).seen = true ∧
    (q.advanced d sweep v o).assertions = min 65535 (q.assertions + 1) ∧
    (q.advanced d sweep v o).firstSweep = some sweep := by
  unfold RowRuntime.advanced
  rw [if_pos h]
  exact ⟨rfl, rfl, saturatingSucc_eq_min _ _, rfl⟩

theorem RowRuntime.advanced_of_not_asserted (h : (phaseStep d q.phase q.progress o).2.2 ≠ .asserted) :
    (q.advanced d sweep v o).latched = q.latched ∧ (q.advanced d sweep v o).seen = q.seen ∧
    (q.advanced d sweep v o).assertions = q.assertions ∧ (q.advanced d sweep v o).firstSweep = q.firstSweep := by
  unfold RowRuntime.advanced
  rw [if_neg h]
  exact ⟨rfl, rfl, rfl, rfl⟩

theorem RowRuntime.advanced_extreme :
    (q.advanced d sweep v o).extreme = some (match q.extreme, d.sense with
      | none, _ => v
      | some x, .above => max x v
      | some x, .below => min x v) := by
  rw [(q.advanced_moves d sweep v o).2.2.1]
  unfold extremeAfter
  cases q.extreme with
  | none => rfl
  | some x => cases d.sense <;> rfl

end Advanced

/-! ### The ceiling in force (R66) -/

section Ceiling

variable {t : TableSet} {d : RowEntry} {q : RowRuntime}

theorem ceilingAfter_of_fixed {c : Nat} (hceiling : d.ceiling = some (.fixed c))
    (h : q.phase = .asserted ∨ q.phase = .clearing ∨ q.latched = true) (v : Nat) : ceilingAfter t d q v = some c := by
  simp only [ceilingAfter, hceiling, if_pos (q.effective_iff.mpr h)]

theorem ceilingAfter_of_idle (h : d.ceiling = none ∨ ¬ (q.phase = .asserted ∨ q.phase = .clearing ∨ q.latched = true))
    (v : Nat) : ceilingAfter t d q v = none := by
  unfold ceilingAfter
  obtain hnone | hidle := h
  · simp only [hnone]
  · have heffective : ¬ q.effective = true := fun h => hidle (q.effective_iff.mp h)
    split
    · rfl
    · rw [if_neg heffective]
    · rw [if_neg fun h => hidle (h.imp_right .inl), if_neg fun h => hidle (.inr (.inr h))]

theorem ceilingAfter_of_curve {c : Nat} {curve : Curve} (hceiling : d.ceiling = some (.curve c))
    (hcurve : t.curve c = some curve) (h : q.phase = .asserted ∨ q.phase = .clearing) (v : Nat) :
    ceilingAfter t d q v = some (curveValue curve v) := by
  simp only [ceilingAfter, hceiling, if_pos h, hcurve, Option.map_some]

theorem ceilingAfter_of_latched {c : Nat} (hceiling : d.ceiling = some (.curve c))
    (h : q.phase = .idle ∨ q.phase = .pending) (hlatched : q.latched = true) (v : Nat) :
    ceilingAfter t d q v = q.ceilingInForce := by
  have hphase : ¬ (q.phase = .asserted ∨ q.phase = .clearing) := by
    obtain h | h := h <;> rw [h] <;> nofun
  simp only [ceilingAfter, hceiling, if_neg hphase, if_pos hlatched]

end Ceiling

/-- Settles O34: each line of the machine, its runs by induction on the count, and what an advance writes. -/
theorem rowMovesByItsCounts : Obligations.RowMovesByItsCounts := by
  unfold Obligations.RowMovesByItsCounts
  intro d n o
  refine ⟨?_, ?_, ?_, ?_, fun _ => ⟨fun hpos hlt => ?_, fun heq => ?_⟩, fun _ => ⟨fun hpos hlt => ?_, fun heq => ?_⟩,
    fun t sweep q v => ?_⟩
  · rintro rfl
    exact ⟨rfl, rfl⟩
  · intro ho
    simp [phaseStep, ho]
  · rintro rfl
    exact ⟨rfl, rfl⟩
  · intro ho
    simp [phaseStep, ho]
  · rw [phaseAfter_idle_crossing d hpos hlt.le, if_neg hlt.ne]
  · rw [phaseAfter_idle_crossing d (by omega) heq.le, if_pos heq]
  · rw [phaseAfter_asserted_release d hpos hlt.le, if_neg hlt.ne]
  · rw [phaseAfter_asserted_release d (by omega) heq.le, if_pos heq]
  · intro step w effective
    obtain ⟨hphase, hprogress, -, hheld⟩ := q.advanced_moves d sweep v o
    refine ⟨hphase, hprogress, rfl, q.advanced_extreme d sweep v o, q.advanced_of_not_asserted d sweep v o,
      fun hidle => ceilingAfter_of_idle (q := q.advanced d sweep v o) hidle v,
      fun c hc heffective => ceilingAfter_of_fixed (q := q.advanced d sweep v o) hc heffective v,
      fun c curve hc hcurve =>
        ⟨fun hrunning => ceilingAfter_of_curve (q := q.advanced d sweep v o) hc hcurve hrunning v, fun hresting hlatched => ?_⟩⟩
    exact (ceilingAfter_of_latched (q := q.advanced d sweep v o) hc hresting hlatched v).trans hheld

/-- A phase step that asserts ends in ASSERTED with no progress. -/
theorem phaseStep_of_asserted {d : RowEntry} {phase : RowPhase} {n : Nat} {o : Outcome}
    (h : (phaseStep d phase n o).2.2 = .asserted) : phaseStep d phase n o = (.asserted, 0, .asserted) := by
  revert h
  cases phase <;> unfold phaseStep <;> dsimp only <;> split_ifs <;> simp

/-- Settles O35. -/
theorem assertionRecordsItself : Obligations.AssertionRecordsItself := by
  unfold Obligations.AssertionRecordsItself
  intro t sweep d q v o hasserted w
  have hstep := phaseStep_of_asserted hasserted
  obtain ⟨hphase, hprogress, -, -⟩ := q.advanced_moves d sweep v o
  rw [hstep] at hphase hprogress
  obtain ⟨hlatched, hseen, hcount, hfirst⟩ := q.advanced_of_asserted d sweep v o hasserted
  have hw : w = _ := congrArg Prod.fst (advanceRow_eq t sweep d q v o)
  rw [hw]
  exact ⟨hphase, hprogress, hseen, hfirst, hcount, hlatched, q.advanced_extreme d sweep v o,
    fun c hc => ceilingAfter_of_fixed (q := q.advanced d sweep v o) hc (.inl hphase) v,
    fun c curve hc hcurve => ceilingAfter_of_curve (q := q.advanced d sweep v o) hc hcurve (.inl hphase) v⟩

end Sys2Proof.Machine

/-! PROOFS. The zone stage, step 1: zones counted down, the end of blanking, and the lanes that restrike (R124, R128). -/

namespace Sys2Proof.Machine

/-! ### Writing one lane -/

theorem State.lane_setLane (s : State) (l k : Nat) (v : Lane) :
    (s.setLane l v).lane k = if l = k ∧ l < s.lanes.length then v else s.lane k :=
  getD_set s.lanes l k v Lane.initial

/-- A change that leaves a lane outside the list as it is may be written whatever the length of the list. -/
theorem State.lane_setLane_of_fixed {g : Lane → Lane} (hg : g Lane.initial = Lane.initial) (s : State) (l k : Nat) :
    (s.setLane l (g (s.lane l))).lane k = if l = k then g (s.lane k) else s.lane k := by
  rw [State.lane_setLane]
  by_cases hk : l = k
  · subst hk
    by_cases hl : l < s.lanes.length
    · rw [if_pos ⟨rfl, hl⟩, if_pos rfl]
    · have hout : s.lane l = Lane.initial := by simp [State.lane, Nat.not_lt.mp hl]
      rw [if_neg fun h => hl h.2, if_pos rfl, hout, hg]
  · rw [if_neg fun h => hk h.1, if_neg hk]

theorem State.setZone_same (s : State) (z : Nat) : s.setZone z (s.zone z) = s := by
  simp only [State.setZone, State.zone, set_getD_self]

theorem State.zone_setZone_of_fixed {g : Zone → Zone} (hg : g Zone.initial = Zone.initial) (s : State) (z k : Nat) :
    (s.setZone z (g (s.zone z))).zone k = if z = k then g (s.zone k) else s.zone k := by
  refine (getD_set s.zones z k _ Zone.initial).trans ?_
  by_cases hk : z = k
  · subst hk
    by_cases hz : z < s.zones.length
    · rw [if_pos ⟨rfl, hz⟩, if_pos rfl]
    · have hout : s.zone z = Zone.initial := by simp [State.zone, Nat.not_lt.mp hz]
      rw [if_neg fun h => hz h.2, if_pos rfl, hout, hg]
      exact hout
  · rw [if_neg fun h => hk h.1, if_neg hk]
    rfl

/-! ### Restriking lanes (R128) -/

/-- A lane as the end of its zone's blanking leaves it. -/
def Lane.restruck (v : Lane) : Lane := if v.state = .blank then { v with state := .ramp, restriking := true } else v

theorem Lane.restruck_of_blank {v : Lane} (h : v.state = .blank) :
    v.restruck = { v with state := .ramp, restriking := true } := if_pos h

theorem Lane.restruck_of_other {v : Lane} (h : v.state ≠ .blank) : v.restruck = v := if_neg h

theorem Lane.restruck_restruck (v : Lane) : v.restruck.restruck = v.restruck := by
  refine Lane.restruck_of_other ?_
  unfold Lane.restruck
  split
  · nofun
  · assumption

theorem restrikeLane_eq (l : Nat) (s : State) : restrikeLane l s = s.setLane l (s.lane l).restruck := by
  unfold restrikeLane Lane.restruck
  dsimp only
  split
  · rfl
  · exact (s.setLane_same l).symm

/-- The members of a zone restrike: every BLANK lane among them, once. -/
theorem forEach_restrikeLane (ls : List Nat) (s : State) :
    (∃ lanes, forEach ls restrikeLane s = { s with lanes := lanes }) ∧
    ∀ k, (forEach ls restrikeLane s).lane k = if k ∈ ls then (s.lane k).restruck else s.lane k := by
  induction ls generalizing s with
  | nil => exact ⟨⟨s.lanes, rfl⟩, fun k => (if_neg List.not_mem_nil).symm⟩
  | cons l ls ih =>
    have hfirst (k : Nat) := State.lane_setLane_of_fixed (g := Lane.restruck) rfl s l k
    obtain ⟨⟨lanes, hframe⟩, hlanes⟩ := ih (restrikeLane l s)
    rw [restrikeLane_eq] at hframe hlanes
    have hrun : forEach (l :: ls) restrikeLane s = forEach ls restrikeLane (s.setLane l (s.lane l).restruck) :=
      congrArg (forEach ls restrikeLane) (restrikeLane_eq l s)
    rw [hrun]
    refine ⟨⟨lanes, hframe⟩, fun k => ?_⟩
    rw [hlanes, hfirst]
    by_cases hk : l = k
    · subst hk
      simp [Lane.restruck_restruck]
    · have hne : ¬ k = l := fun h => hk h.symm
      simp [hk, hne]

/-! ### Counting a zone down (R124) -/

/-- A zone as step 1 leaves it. -/
def Zone.countedDown (v : Zone) : Zone :=
  if v.state = .blank then
    if v.blankRemaining ≤ 1 then { v with state := .normal, blankRemaining := 0 }
    else { v with blankRemaining := v.blankRemaining - 1 }
  else v

/-- Step 1 ends zone `z`'s blanking. -/
def State.endsBlank (s : State) (z : Nat) : Bool := (s.zone z).state == .blank && decide ((s.zone z).blankRemaining ≤ 1)

/-- The notice of the end of zone `z`'s blanking. -/
def State.endNotice (s : State) (sweep : SweepNo) (z : Nat) : Notice := zoneNotice z (s.zone z).countedDown sweep

theorem State.endsBlank_iff (s : State) (z : Nat) :
    s.endsBlank z = true ↔ (s.zone z).state = .blank ∧ (s.zone z).blankRemaining ≤ 1 := by
  simp [State.endsBlank]

theorem State.countedDown_of_ends {s : State} {z : Nat} (h : s.endsBlank z = true) :
    (s.zone z).countedDown = { s.zone z with state := .normal, blankRemaining := 0 } := by
  obtain ⟨hblank, hlast⟩ := (s.endsBlank_iff z).mp h
  rw [Zone.countedDown, if_pos hblank, if_pos hlast]

/-- The end of a zone's blanking: the zone and its notice, and then its members. -/
theorem State.endBlanking_eq {s : State} {z : Nat} (h : s.endsBlank z = true) (sweep : SweepNo) :
    (∃ lanes, s.endBlanking z sweep = State.withNotices
      { s with zones := s.zones.set z (s.zone z).countedDown, lanes := lanes } (s.queuing [s.endNotice sweep z])) ∧
    ∀ l, (s.endBlanking z sweep).lane l =
      if l ∈ s.activeSet.members s.siteRecord.lanes z then (s.lane l).restruck else s.lane l := by
  have hqueued : (s.setZone z (s.zone z).countedDown).queueNotice (s.endNotice sweep z) =
      State.withNotices (s.setZone z (s.zone z).countedDown) (s.queuing [s.endNotice sweep z]) :=
    State.queueNotice_eq_withNotices (q := s) (by exact ⟨rfl, rfl, rfl⟩) _
  have hend : s.endBlanking z sweep = forEach (s.activeSet.members s.siteRecord.lanes z) restrikeLane
      (State.withNotices (s.setZone z (s.zone z).countedDown) (s.queuing [s.endNotice sweep z])) := by
    rw [← hqueued]
    unfold State.endNotice
    rw [State.countedDown_of_ends h]
    rfl
  obtain ⟨⟨lanes, hframe⟩, hlanes⟩ := forEach_restrikeLane (s.activeSet.members s.siteRecord.lanes z)
    (State.withNotices (s.setZone z (s.zone z).countedDown) (s.queuing [s.endNotice sweep z]))
  rw [hend]
  exact ⟨⟨lanes, hframe⟩, hlanes⟩

theorem countDownZone_of_ends {s : State} {z : Nat} (h : s.endsBlank z = true) (sweep : SweepNo) :
    countDownZone sweep z s = s.endBlanking z sweep := by
  obtain ⟨hblank, hlast⟩ := (s.endsBlank_iff z).mp h
  unfold countDownZone
  dsimp only
  rw [if_pos hblank, if_pos hlast]

theorem countDownZone_of_not_ends {s : State} {z : Nat} (h : ¬ s.endsBlank z = true) (sweep : SweepNo) :
    countDownZone sweep z s = s.setZone z (s.zone z).countedDown := by
  have hnot := fun hblank hlast => h ((s.endsBlank_iff z).mpr ⟨hblank, hlast⟩)
  unfold countDownZone Zone.countedDown
  dsimp only
  by_cases hblank : (s.zone z).state = .blank
  · rw [if_pos hblank, if_pos hblank, if_neg (hnot hblank), if_neg (hnot hblank)]
  · rw [if_neg hblank, if_neg hblank, State.setZone_same]

/-- `t` is `s` after step 1 on the zones below `n`. -/
structure State.CountedDownBelow (s : State) (sweep : SweepNo) (n : Nat) (t : State) : Prop where
  frame : ∃ zones lanes, t = State.withNotices { s with zones := zones, lanes := lanes }
    (s.queuing (((List.range n).filter s.endsBlank).map (s.endNotice sweep)))
  zone : ∀ z, t.zone z = if z < n then (s.zone z).countedDown else s.zone z
  lane : ∀ l, t.lane l =
    if ∃ z, z < n ∧ s.endsBlank z = true ∧ l ∈ s.activeSet.members s.siteRecord.lanes z then (s.lane l).restruck
    else s.lane l

theorem State.CountedDownBelow.succ {s t : State} {sweep : SweepNo} {n : Nat} (h : s.CountedDownBelow sweep n t) :
    s.CountedDownBelow sweep (n + 1) (countDownZone sweep n t) := by
  obtain ⟨⟨zones, lanes, hframe⟩, hzone, hlane⟩ := h
  have hn : t.zone n = s.zone n := by rw [hzone, if_neg (Nat.lt_irrefl n)]
  have hends : t.endsBlank n = s.endsBlank n := by unfold State.endsBlank; rw [hn]
  have hnotice : t.endNotice sweep n = s.endNotice sweep n := by unfold State.endNotice; rw [hn]
  have hmembers : t.activeSet.members t.siteRecord.lanes n = s.activeSet.members s.siteRecord.lanes n := by
    rw [hframe]
    rfl
  have hnotices : t.NoticesOf (s.queuing (((List.range n).filter s.endsBlank).map (s.endNotice sweep))) := by
    rw [hframe]
    exact State.noticesOf_withNotices _ _
  have hwritten (z : Nat) : (t.setZone n (t.zone n).countedDown).zone z =
      if z < n + 1 then (s.zone z).countedDown else s.zone z := by
    rw [State.zone_setZone_of_fixed (g := Zone.countedDown) rfl, hzone]
    obtain rfl | hz := eq_or_ne n z
    · simp
    · have hlt : z < n + 1 ↔ z < n := by omega
      simp only [if_neg hz, hlt]
  by_cases hend : s.endsBlank n = true
  · obtain ⟨⟨lanes', hended⟩, hlanes'⟩ := State.endBlanking_eq (hends.trans hend) sweep
    rw [countDownZone_of_ends (hends.trans hend)]
    rw [hnotice] at hended
    refine ⟨⟨(t.zones.set n (t.zone n).countedDown), lanes', ?_⟩, fun z => ?_, fun l => ?_⟩
    · rw [hended, filter_range_succ, if_pos hend, List.map_append, State.queuing_append,
        State.queuing_eq_withNotices hnotices, hframe]
      rfl
    · rw [hended]
      exact hwritten z
    · rw [hlanes', hmembers, hlane]
      by_cases hmem : l ∈ s.activeSet.members s.siteRecord.lanes n
      · have hin : ∃ z, z < n + 1 ∧ s.endsBlank z = true ∧ l ∈ s.activeSet.members s.siteRecord.lanes z :=
          ⟨n, Nat.lt_succ_self n, hend, hmem⟩
        rw [if_pos hmem, if_pos hin]
        split
        · exact Lane.restruck_restruck _
        · rfl
      · rw [if_neg hmem]
        refine if_congr ⟨fun ⟨z, hz, hzend, hzmem⟩ => ⟨z, Nat.lt_succ_of_lt hz, hzend, hzmem⟩, ?_⟩ rfl rfl
        rintro ⟨z, hz, hzend, hzmem⟩
        refine ⟨z, lt_of_le_of_ne (Nat.le_of_lt_succ hz) ?_, hzend, hzmem⟩
        rintro rfl
        exact hmem hzmem
  · rw [countDownZone_of_not_ends (by rw [hends]; exact hend)]
    refine ⟨⟨(t.zones.set n (t.zone n).countedDown), lanes, ?_⟩, hwritten, fun l => ?_⟩
    · rw [filter_range_succ, if_neg hend, List.append_nil, hframe]
      rfl
    · refine (hlane l).trans (if_congr ⟨fun ⟨z, hz, hzend, hzmem⟩ => ⟨z, Nat.lt_succ_of_lt hz, hzend, hzmem⟩, ?_⟩ rfl rfl)
      rintro ⟨z, hz, hzend, hzmem⟩
      refine ⟨z, lt_of_le_of_ne (Nat.le_of_lt_succ hz) ?_, hzend, hzmem⟩
      rintro rfl
      exact hend hzend

theorem State.countedDownBelow_blankingStep (s : State) (sweep : SweepNo) :
    s.CountedDownBelow sweep s.siteRecord.zones (blankingStep sweep s) :=
  foldl_range (P := fun n t => s.CountedDownBelow sweep n t) s.siteRecord.zones
    ⟨⟨s.zones, s.lanes, rfl⟩, fun _ => (if_neg (Nat.not_lt_zero _)).symm,
      fun _ => (if_neg fun ⟨_, hz, _⟩ => Nat.not_lt_zero _ hz).symm⟩ fun _ _ _ h => h.succ

/-! ### The end of blanking as one event -/

/-- A lane as an event that has moved it from `old` notes it. -/
def Lane.noted (v : Lane) (old : LaneState) (sweep : SweepNo) : Lane :=
  if old = v.state then v else { v with stateEntrySweep := sweep }

theorem State.noteLaneChange_eq (t : State) (l : Nat) (old : LaneState) :
    t.noteLaneChange l old = (t.setLane l ((t.lane l).noted old t.lastEvaluation)).queueNotice?
      (laneChangeNotice l old ((t.lane l).noted old t.lastEvaluation)) := by
  unfold State.noteLaneChange Lane.noted
  dsimp only
  by_cases hsame : old = (t.lane l).state
  · rw [if_pos hsame, if_pos hsame, laneChangeNotice_of_same hsame, State.setLane_same]
    rfl
  · rw [if_neg hsame, if_neg hsame]

/-- An operation that writes each lane by a rule of its own record, and queues a notice by it. -/
theorem forEach_writesLanes {s : State} {f : Nat → State → State} {g : Nat → Lane → Lane}
    {notice : Nat → Lane → Option Notice} {ls : List Nat} (hnodup : ls.Nodup) (hlt : ∀ l ∈ ls, l < s.lanes.length)
    (hf : ∀ l t lanes q, t = State.withNotices { s with lanes := lanes } q →
      f l t = (t.setLane l (g l (t.lane l))).queueNotice? (notice l (g l (t.lane l)))) :
    (∃ lanes, forEach ls f s = State.withNotices { s with lanes := lanes }
      (s.queuing (ls.filterMap fun l => notice l (g l (s.lane l))))) ∧
    ∀ k, (forEach ls f s).lane k = if k ∈ ls then g k (s.lane k) else s.lane k := by
  have run (ls : List Nat) (hnodup : ls.Nodup) (hlt : ∀ l ∈ ls, l < s.lanes.length) (t : State) (lanes q)
      (ht : t = State.withNotices { s with lanes := lanes } q) (hlen : t.lanes.length = s.lanes.length) :
      (∃ lanes', forEach ls f t = State.withNotices { s with lanes := lanes' }
        (t.queuing (ls.filterMap fun l => notice l (g l (t.lane l))))) ∧
      ∀ k, (forEach ls f t).lane k = if k ∈ ls then g k (t.lane k) else t.lane k := by
    induction ls generalizing t lanes q with
    | nil =>
      refine ⟨⟨t.lanes, ?_⟩, fun k => (if_neg List.not_mem_nil).symm⟩
      rw [ht]
      rfl
    | cons l ls ih =>
      obtain ⟨hl, hnodup⟩ := List.nodup_cons.mp hnodup
      have hwritten := hf l t lanes q ht
      have hqueued : f l t = State.withNotices (t.setLane l (g l (t.lane l)))
          (t.queuing (notice l (g l (t.lane l))).toList) := by
        rw [hwritten, State.queueNotice?_eq_queuing]
        exact State.queuing_eq_withNotices (q := t) (by exact ⟨rfl, rfl, rfl⟩) _
      have hlane (k : Nat) : (f l t).lane k = if l = k then g k (t.lane k) else t.lane k := by
        have hk : (f l t).lane k = (t.setLane l (g l (t.lane l))).lane k := by rw [hqueued]; rfl
        rw [hk, State.lane_setLane]
        obtain rfl | hne := eq_or_ne l k
        · rw [if_pos ⟨rfl, by rw [hlen]; exact hlt _ List.mem_cons_self⟩, if_pos rfl]
        · rw [if_neg fun h => hne h.1, if_neg hne]
      have hother (k : Nat) (hk : k ∈ ls) : (f l t).lane k = t.lane k := by
        rw [hlane, if_neg]
        rintro rfl
        exact hl hk
      have hrest := ih hnodup (fun k hk => hlt k (List.mem_cons_of_mem _ hk)) (f l t) (t.lanes.set l (g l (t.lane l)))
        (t.queuing (notice l (g l (t.lane l))).toList) (by rw [hqueued, ht]; rfl)
        (by rw [hqueued]; exact (List.length_set ..).trans hlen)
      obtain ⟨⟨lanes', hframe⟩, hlanes⟩ := hrest
      refine ⟨⟨lanes', ?_⟩, fun k => ?_⟩
      · refine hframe.trans ?_
        have hmap : (ls.filterMap fun l' => notice l' (g l' ((f l t).lane l'))) =
            ls.filterMap fun l' => notice l' (g l' (t.lane l')) :=
          List.filterMap_congr fun k hk => by rw [hother k hk]
        have hsplit : ((l :: ls).filterMap fun l' => notice l' (g l' (t.lane l'))) =
            (notice l (g l (t.lane l))).toList ++ ls.filterMap fun l' => notice l' (g l' (t.lane l')) := by
          rw [List.filterMap_cons]
          cases notice l (g l (t.lane l)) <;> rfl
        rw [hmap, hsplit, State.queuing_append]
        have hq : (f l t).NoticesOf (t.queuing (notice l (g l (t.lane l))).toList) := by
          rw [hqueued]
          exact State.noticesOf_withNotices _ _
        rw [State.queuing_eq_withNotices hq]
        rfl
      · refine (hlanes k).trans ?_
        by_cases hk : k ∈ ls
        · rw [if_pos hk, if_pos (List.mem_cons_of_mem _ hk), hother k hk]
        · rw [if_neg hk, hlane]
          obtain rfl | hne := eq_or_ne l k
          · rw [if_pos rfl, if_pos List.mem_cons_self]
          · rw [if_neg hne, if_neg]
            exact fun h => (List.mem_cons.mp h).elim (fun h => hne h.symm) hk
  exact run ls hnodup hlt s s.lanes s rfl rfl

theorem TableSet.nodup_members (t : TableSet) (lanes z : Nat) : (t.members lanes z).Nodup :=
  List.nodup_range.filter _

theorem filterMap_ite {α β : Type} (p : α → Bool) (f : α → β) (xs : List α) :
    (xs.filterMap fun x => if p x then some (f x) else none) = (xs.filter p).map f := by
  induction xs with
  | nil => rfl
  | cons x xs ih => cases hp : p x <;> simp [hp, ih]

theorem exec_blankingEnd {s : State} (h : s.inReset = false) (zone : BitVec 3) :
    exec (.blankingEnd zone) s = .next (s.endBlankingIfDue zone.toNat) :=
  congrArg Host.Outcome.next (State.unlessReset_of_running h _)

/-- A member lane as the end of its zone's blanking leaves it, with the event's entry sweep. -/
def Lane.freed (v : Lane) (sweep : SweepNo) : Lane :=
  if v.state = .blank then { v with state := .ramp, restriking := true, stateEntrySweep := sweep } else v

theorem Lane.restruck_noted (v : Lane) (sweep : SweepNo) : v.restruck.noted v.state sweep = v.freed sweep := by
  unfold Lane.freed
  by_cases hblank : v.state = .blank
  · rw [Lane.restruck_of_blank hblank, if_pos hblank, Lane.noted, if_neg (by rw [hblank]; nofun)]
  · rw [Lane.restruck_of_other hblank, if_neg hblank, Lane.noted, if_pos rfl]

/-- The event that ends a zone's blanking, as one state. -/
theorem State.endBlankingIfDue_eq {s : State} {z : Nat} (hz : z < s.siteRecord.zones) (hend : s.endsBlank z = true)
    (hlength : s.siteRecord.lanes ≤ s.lanes.length) :
    (∃ lanes, s.endBlankingIfDue z = State.withNotices
      { s with zones := s.zones.set z (s.zone z).countedDown, lanes := lanes }
      (s.queuing (s.endNotice s.lastEvaluation z :: (s.activeSet.members s.siteRecord.lanes z).filterMap fun l =>
        laneChangeNotice l (s.lane l).state ((s.lane l).freed s.lastEvaluation)))) ∧
    ∀ l, (s.endBlankingIfDue z).lane l =
      if l ∈ s.activeSet.members s.siteRecord.lanes z then (s.lane l).freed s.lastEvaluation else s.lane l := by
  obtain ⟨hblank, hlast⟩ := (s.endsBlank_iff z).mp hend
  obtain ⟨⟨lanes, hframe⟩, hlanes⟩ := State.endBlanking_eq hend s.lastEvaluation
  generalize hmembers : s.activeSet.members s.siteRecord.lanes z = members at hlanes
  have hrun : s.endBlankingIfDue z = forEach members (fun l t => t.noteLaneChange l (s.lane l).state)
      (s.endBlanking z s.lastEvaluation) := by
    unfold State.endBlankingIfDue
    dsimp only
    rw [if_pos ⟨hz, hblank, hlast⟩, hmembers]
  have hlong : (s.endBlanking z s.lastEvaluation).lanes.length = s.lanes.length :=
    forEach_keeps (P := fun t => t.lanes.length = s.lanes.length)
      (fun l _ t ht => by rw [restrikeLane_eq]; exact (List.length_set ..).trans ht) (by simp)
  generalize s.endBlanking z s.lastEvaluation = u at hframe hlanes hlong hrun
  have hlt (l : Nat) (hl : l ∈ members) : l < u.lanes.length := by
    rw [← hmembers, TableSet.mem_members] at hl
    rw [hlong]
    exact hl.1.trans_le hlength
  obtain ⟨⟨lanes', hnoted⟩, hlanes'⟩ := forEach_writesLanes (s := u)
    (f := fun l t => t.noteLaneChange l (s.lane l).state) (g := fun l v => v.noted (s.lane l).state s.lastEvaluation)
    (notice := fun l v => laneChangeNotice l (s.lane l).state v) (ls := members)
    (hmembers ▸ TableSet.nodup_members _ _ _) hlt (fun l t _ _ ht => by
      have hsweep : t.lastEvaluation = s.lastEvaluation := by rw [ht, hframe]; rfl
      rw [t.noteLaneChange_eq, hsweep])
  have hfreed (l : Nat) (hl : l ∈ members) : (u.lane l).noted (s.lane l).state s.lastEvaluation =
      (s.lane l).freed s.lastEvaluation := by
    rw [hlanes, if_pos hl, Lane.restruck_noted]
  rw [hrun]
  refine ⟨⟨lanes', ?_⟩, fun l => ?_⟩
  · have hmap : (members.filterMap fun l =>
        laneChangeNotice l (s.lane l).state ((u.lane l).noted (s.lane l).state s.lastEvaluation)) =
        members.filterMap fun l => laneChangeNotice l (s.lane l).state ((s.lane l).freed s.lastEvaluation) :=
      List.filterMap_congr fun l hl => by rw [hfreed l hl]
    have hnotices : u.NoticesOf (s.queuing [s.endNotice s.lastEvaluation z]) := by
      rw [hframe]
      exact State.noticesOf_withNotices _ _
    rw [hnoted, hmap, State.queuing_eq_withNotices hnotices, hframe]
    rfl
  · rw [hlanes']
    by_cases hl : l ∈ members
    · rw [if_pos hl, if_pos hl, hfreed l hl]
    · rw [if_neg hl, if_neg hl, hlanes, if_neg hl]

/-- Settles O38: step 1 by induction on the zones, and the event as the same end of blanking with each lane's change noted. -/
theorem blankingEndRestrikesTheBlankLanes : Obligations.BlankingEndRestrikesTheBlankLanes := by
  unfold Obligations.BlankingEndRestrikesTheBlankLanes
  refine ⟨fun s sweep _ hpositive => ?_, fun s zone hreset _ hlanes hbelow hz => ?_⟩
  · intro t ends restrikes
    obtain ⟨⟨zones, lanes, hframe⟩, hzone, hlane⟩ := s.countedDownBelow_blankingStep sweep
    have hends (z : Nat) : ends z ↔ z < s.siteRecord.zones ∧ s.endsBlank z = true := by
      rw [State.endsBlank_iff]
      refine and_congr_right fun hz => and_congr_right fun hblank => ?_
      have := hpositive z hz hblank
      omega
    refine ⟨fun z hz => ?_, fun z hz hblank hmore => ?_, fun z hz => ?_, fun l => ?_, fun ended hascends hmem => ?_, ?_⟩
    · obtain ⟨hlt, hend⟩ := (hends z).mp hz
      rw [show t.zone z = _ from hzone z, if_pos hlt, State.countedDown_of_ends hend]
    · rw [show t.zone z = _ from hzone z, if_pos hz, Zone.countedDown, if_pos hblank, if_neg (by omega)]
    · rw [show t.zone z = _ from hzone z]
      obtain hout | hstate := hz
      · rw [if_neg (by omega)]
      · rw [Zone.countedDown, if_neg hstate, ite_self]
    · have hin : (∃ z, z < s.siteRecord.zones ∧ s.endsBlank z = true ∧ l ∈ s.activeSet.members s.siteRecord.lanes z) ↔
          ∃ z, ends z ∧ l < s.siteRecord.lanes ∧ s.activeSet.zoneOf l = some z := by
        simp only [hends, TableSet.mem_members, and_assoc]
      rw [show t.lane l = _ from hlane l]
      refine ⟨fun ⟨hblank, hex⟩ => ?_, fun hnot => ?_⟩
      · rw [if_pos (hin.mpr hex), Lane.restruck_of_blank hblank]
      · split
        case isTrue hex => exact Lane.restruck_of_other fun hblank => hnot ⟨hblank, hin.mp hex⟩
        case isFalse => rfl
    · have hended : ended = (List.range s.siteRecord.zones).filter s.endsBlank :=
        ascending_eq_filter hascends fun z => (hmem z).trans (hends z)
      rw [show t = _ from hframe, ← hended]
      have hmapped : ended.map (s.endNotice sweep) = ended.map fun z =>
          { subject := .zone z, state := .zone .normal, value := .number (s.zone z).arcHistory.length, sweep
            changes := 1 } := by
        refine List.map_congr_left fun z hz => ?_
        obtain ⟨-, hend⟩ := (hends z).mp ((hmem z).mp hz)
        unfold State.endNotice
        rw [State.countedDown_of_ends hend]
        rfl
      rw [← hmapped]
      exact State.noticesOf_withNotices _ _
    · have hrest (u : State) (a b q) (hu : u = State.withNotices { s with zones := a, lanes := b } q) : u = { s with
          zones := u.zones, lanes := u.lanes, notices := u.notices, noticesDropped := u.noticesDropped
          droppedCount := u.droppedCount } := by
        subst hu
        rfl
      exact hrest t _ _ _ hframe
  · intro v
    refine ⟨fun hblank hlast => ?_, fun hnot => ?_⟩
    · have hend : s.endsBlank zone.toNat = true := (s.endsBlank_iff _).mpr ⟨hblank, hlast.le⟩
      obtain ⟨⟨lanes, hframe⟩, hlane⟩ := State.endBlankingIfDue_eq hz hend (by omega)
      have hzone (z : Nat) : (s.endBlankingIfDue zone.toNat).zone z =
          if zone.toNat = z then (s.zone z).countedDown else s.zone z := by
        refine Eq.trans ?_ (s.zone_setZone_of_fixed (g := Zone.countedDown) rfl zone.toNat z)
        rw [hframe]
        rfl
      refine ⟨_, exec_blankingEnd hreset zone, ?_, fun z hne => ?_, fun l hl => ?_, fun left hascends hmem => ?_, ?_⟩
      · rw [hzone, if_pos rfl, State.countedDown_of_ends hend]
      · rw [hzone, if_neg hne.symm]
      · rw [hlane]
        unfold Lane.freed
        by_cases hin : l ∈ s.activeSet.members s.siteRecord.lanes zone.toNat
        · rw [if_pos hin]
          obtain ⟨hlt, hof⟩ := TableSet.mem_members.mp hin
          exact if_congr ⟨fun h => ⟨hlt, hof, h⟩, fun h => h.2.2⟩ rfl rfl
        · rw [if_neg hin, if_neg fun h => hin (TableSet.mem_members.mpr ⟨h.1, h.2.1⟩)]
      · have hleft : (s.activeSet.members s.siteRecord.lanes zone.toNat).filterMap (fun l =>
              laneChangeNotice l (s.lane l).state ((s.lane l).freed s.lastEvaluation)) =
            left.map fun l =>
              { subject := .lane l, state := .lane .ramp, value := .number (s.lane l).applied
                sweep := s.lastEvaluation, changes := 1 } := by
          have hleft : left = (s.activeSet.members s.siteRecord.lanes zone.toNat).filter fun l =>
              decide ((s.lane l).state = .blank) := by
            refine List.Pairwise.eq_of_mem_iff hascends
              (((List.pairwise_lt_range (n := s.siteRecord.lanes)).filter _).filter _) fun l => ?_
            rw [hmem, List.mem_filter, TableSet.mem_members, decide_eq_true_eq, and_assoc]
            exact and_iff_right_of_imp fun h => h.1.trans_le hbelow
          rw [hleft, ← filterMap_ite]
          refine List.filterMap_congr fun l _ => ?_
          unfold Lane.freed
          by_cases hl : (s.lane l).state = .blank
          · rw [if_pos hl, if_pos (decide_eq_true hl),
              laneChangeNotice_of_noticed (by rw [hl]; nofun) (.inl (by rw [hl]; rfl))]
            rfl
          · rw [if_neg hl, if_neg (by simpa using hl), laneChangeNotice_of_same rfl]
        rw [← hleft, hframe]
        have hended : s.endNotice s.lastEvaluation zone.toNat =
            { subject := .zone zone.toNat, state := .zone .normal, value := .number v.arcHistory.length
              sweep := s.lastEvaluation, changes := 1 } := by
          unfold State.endNotice
          rw [State.countedDown_of_ends hend]
          rfl
        rw [← hended]
        exact State.noticesOf_withNotices _ _
      · have hrest (u : State) (a b q) (hu : u = State.withNotices { s with zones := a, lanes := b } q) : u = { s with
            zones := u.zones, lanes := u.lanes, notices := u.notices, noticesDropped := u.noticesDropped
            droppedCount := u.droppedCount } := by
          subst hu
          rfl
        exact hrest _ _ _ _ hframe
    · rw [exec_blankingEnd hreset]
      refine congrArg Host.Outcome.next (if_neg ?_)
      rintro ⟨-, hblank, hlast⟩
      obtain hstate | hmore := hnot
      · exact hstate hblank
      · exact absurd (Nat.le_trans hmore hlast) (by decide)

end Sys2Proof.Machine

/-! PROOFS. The zone stage, steps 2 to 4: an arc judged by its zone's state (R122 to R129), and the arc line (R130 to R133). -/

namespace Sys2Proof.Machine

/-! ### The lanes of a zone that enters BLANK (R113, R127) -/

/-- A blank entry moves the lane. -/
def Lane.movable (v : Lane) : Prop := v.state ≠ .off ∧ v.state ≠ .lockout

/-- A lane as its zone's entry into BLANK moves it. -/
def Lane.blanked (v : Lane) : Lane := { v.abandonProbe with state := .blank, restriking := false }

/-- The state that step 2 judges a moved lane from. -/
def Lane.movedState (v : Lane) : LaneState := if v.restriking then .blank else v.state

theorem blankLane_of_movable {s : State} {l : Nat} (h : (s.lane l).movable) :
    blankLane l s = (s.setLane l (s.lane l).blanked).noteMoved l (s.lane l).movedState :=
  if_neg (not_or.mpr h)

theorem blankLane_of_fixed {s : State} {l : Nat} (h : ¬ (s.lane l).movable) : blankLane l s = s :=
  if_pos (not_not.mp fun hn => h (not_or.mp hn))

theorem Lane.movable_lt {s : State} {l : Nat} (h : (s.lane l).movable) : l < s.lanes.length := by
  by_contra hlt
  exact h.1 (by simp [State.lane, Nat.not_lt.mp hlt, Lane.initial])

/-- The entry into BLANK on the lanes of a list: each movable lane is moved, and an evaluation in progress keeps what step
2 judges it from. -/
theorem forEach_blankLane {ls : List Nat} (hnodup : ls.Nodup) (s : State) :
    (∃ lanes, forEach ls blankLane s =
      { s with lanes := lanes, evaluation := (forEach ls blankLane s).evaluation }) ∧
    (∀ k, ((k ∈ ls ∧ (s.lane k).movable) → (forEach ls blankLane s).lane k = (s.lane k).blanked) ∧
      (¬ (k ∈ ls ∧ (s.lane k).movable) → (forEach ls blankLane s).lane k = s.lane k)) ∧
    (s.evaluation = none → (forEach ls blankLane s).evaluation = none) ∧
    ∀ e, s.evaluation = some e → ∃ m, (forEach ls blankLane s).evaluation = some { e with movedFrom := m } ∧
      ∀ k, k < e.movedFrom.length →
        ((k ∈ ls ∧ (s.lane k).movable) → m.getD k none = some (s.lane k).movedState) ∧
        (¬ (k ∈ ls ∧ (s.lane k).movable) → m.getD k none = e.movedFrom.getD k none) := by
  induction ls generalizing s with
  | nil =>
    refine ⟨⟨s.lanes, rfl⟩, fun k => ⟨fun h => absurd h.1 List.not_mem_nil, fun _ => rfl⟩, id, fun e he => ⟨_, he, ?_⟩⟩
    exact fun k _ => ⟨fun h => absurd h.1 List.not_mem_nil, fun _ => rfl⟩
  | cons l ls ih =>
    obtain ⟨hl, hnodup⟩ := List.nodup_cons.mp hnodup
    obtain ⟨⟨lanes, hframe⟩, hlanes, hnone, hsome⟩ := ih hnodup (blankLane l s)
    have hrun : forEach (l :: ls) blankLane s = forEach ls blankLane (blankLane l s) := rfl
    rw [hrun]
    by_cases hmove : (s.lane l).movable
    · have hwritten := blankLane_of_movable hmove
      generalize blankLane l s = u at *
      have hlane (k : Nat) : u.lane k = if l = k then (s.lane l).blanked else s.lane k := by
        rw [hwritten]
        refine (s.lane_setLane l k _).trans (if_congr ?_ rfl rfl)
        exact and_iff_left (Lane.movable_lt hmove)
      have hother {k : Nat} (hk : l ≠ k) : u.lane k = s.lane k := by rw [hlane, if_neg hk]
      have hmem {k : Nat} (hk : l ≠ k) : (k ∈ l :: ls ∧ (s.lane k).movable) ↔ (k ∈ ls ∧ (u.lane k).movable) := by
        rw [hother hk, List.mem_cons]
        exact and_congr_left' (or_iff_right fun h => hk h.symm)
      have hself : ¬ (l ∈ ls ∧ (u.lane l).movable) := fun h => hl h.1
      have heval : u.evaluation = s.evaluation.map fun e =>
          { e with movedFrom := e.movedFrom.set l (some (s.lane l).movedState) } := by
        rw [hwritten]
        rfl
      refine ⟨⟨lanes, hframe.trans (by rw [hwritten]; rfl)⟩, fun k => ?_, fun h => hnone (by rw [heval, h]; rfl),
        fun e he => ?_⟩
      · obtain rfl | hk := eq_or_ne l k
        · refine ⟨fun _ => ((hlanes l).2 hself).trans ?_, fun h => absurd ⟨List.mem_cons_self, hmove⟩ h⟩
          rw [hlane, if_pos rfl]
        · rw [hmem hk, ← hother hk]
          exact hlanes k
      · obtain ⟨m, hm, hmoved⟩ := hsome _ (by rw [heval, he]; rfl)
        refine ⟨m, hm, fun k hk => ?_⟩
        have hwas := hmoved k (by simpa using hk)
        rw [getD_set] at hwas
        obtain rfl | hne := eq_or_ne l k
        · refine ⟨fun _ => (hwas.2 hself).trans (if_pos ⟨rfl, hk⟩), fun h => absurd ⟨List.mem_cons_self, hmove⟩ h⟩
        · rw [if_neg fun h => hne h.1] at hwas
          rw [hmem hne, ← hother hne]
          exact hwas
    · rw [blankLane_of_fixed hmove] at hframe hlanes hnone hsome ⊢
      have hmem (k : Nat) : (k ∈ l :: ls ∧ (s.lane k).movable) ↔ (k ∈ ls ∧ (s.lane k).movable) := by
        rw [List.mem_cons]
        refine and_congr_left fun hk => or_iff_right ?_
        rintro rfl
        exact hmove hk
      simp only [hmem]
      exact ⟨⟨lanes, hframe⟩, hlanes, hnone, hsome⟩

/-! ### The ARC rows that a blank entry returns (R69) -/

/-- Row `r` is an ARC row of zone `z`. -/
def State.returns (s : State) (z r : Nat) : Bool :=
  (s.activeSet.row r).any (returnedByBlank s.activeSet s.siteRecord.lanes z)

/-- Row `r`'s runtime as a blank entry of zone `z` leaves it. -/
def State.returnedRow (s : State) (z r : Nat) : Option RowRuntime :=
  (s.rowRuntime r).map fun q => if s.returns z r then { q with phase := .idle, progress := 0 } else q

/-- The release notice of row `r` at a blank entry of zone `z`. -/
def State.returnNotice (s : State) (z : Nat) (sweep : SweepNo) (r : Nat) : Option Notice :=
  match s.activeSet.row r, s.rowRuntime r with
  | some d, some q =>
    if returnedByBlank s.activeSet s.siteRecord.lanes z d ∧ (q.phase = .asserted ∨ q.phase = .clearing) ∧ d.report = .alert
    then some (rowNotice r .idle q.latched (s.pointOrNone d.source).value sweep)
    else none
  | _, _ => none

theorem returnArcRow_eq (z : Nat) (sweep : SweepNo) (r : Nat) (s : State) :
    returnArcRow z sweep r s = State.withNotices
      { s with rowRuntimes := s.rowRuntimes.set r (s.returnedRow z r) } (s.queuing (s.returnNotice z sweep r).toList) := by
  have hsame (h : s.returnedRow z r = s.rowRuntime r) : s.rowRuntimes.set r (s.returnedRow z r) = s.rowRuntimes := by
    rw [h]
    exact set_getD_self s.rowRuntimes r none
  unfold returnArcRow
  cases hd : s.activeSet.row r with
  | none =>
    have hrow : s.returnedRow z r = s.rowRuntime r := by
      simp only [State.returnedRow, State.returns, hd, Option.any_none, Bool.false_eq_true, if_false, Option.map_id']
    rw [hsame hrow]
    simp only [State.returnNotice, hd]
    rfl
  | some d =>
    cases hq : s.rowRuntime r with
    | none =>
      have hrow : s.returnedRow z r = s.rowRuntime r := by rw [State.returnedRow, hq]; rfl
      rw [hsame hrow]
      simp only [State.returnNotice, hd, hq]
      rfl
    | some q =>
      simp only [State.returnNotice, hd, hq]
      by_cases hret : returnedByBlank s.activeSet s.siteRecord.lanes z d = true
      · have hrow : s.returnedRow z r = some { q with phase := .idle, progress := 0 } := by
          simp only [State.returnedRow, State.returns, hd, hq, Option.any_some, hret, if_true, Option.map_some]
        rw [if_pos hret, hrow]
        by_cases howed : (q.phase = .asserted ∨ q.phase = .clearing) ∧ d.report = .alert
        · rw [if_pos howed, if_pos ⟨hret, howed⟩]
          exact State.queueNotice_eq_withNotices (q := s) (by exact ⟨rfl, rfl, rfl⟩) _
        · rw [if_neg howed, if_neg fun h => howed h.2]
          rfl
      · have hrow : s.returnedRow z r = s.rowRuntime r := by
          simp only [State.returnedRow, State.returns, hd, hq, Option.any_some, hret, Bool.false_eq_true, if_false,
            Option.map_some]
        rw [if_neg hret, if_neg fun h => hret h.1, hsame hrow]
        rfl

/-- The rows below `n` as a blank entry of zone `z` leaves them. -/
theorem forEach_returnArcRow (s : State) (z : Nat) (sweep : SweepNo) (n : Nat) :
    (∃ rows, forEach (List.range n) (returnArcRow z sweep) s = State.withNotices { s with rowRuntimes := rows }
      (s.queuing ((List.range n).filterMap (s.returnNotice z sweep)))) ∧
    ∀ r, (forEach (List.range n) (returnArcRow z sweep) s).rowRuntime r =
      if r < n then s.returnedRow z r else s.rowRuntime r := by
  refine foldl_range (P := fun n t =>
    (∃ rows, t = State.withNotices { s with rowRuntimes := rows }
      (s.queuing ((List.range n).filterMap (s.returnNotice z sweep)))) ∧
    ∀ r, t.rowRuntime r = if r < n then s.returnedRow z r else s.rowRuntime r) n
    ⟨⟨s.rowRuntimes, rfl⟩, fun _ => (if_neg (Nat.not_lt_zero _)).symm⟩ fun k t _ ⟨⟨rows, hframe⟩, hrows⟩ => ?_
  have hk : t.rowRuntime k = s.rowRuntime k := by rw [hrows, if_neg (Nat.lt_irrefl k)]
  have hset : t.activeSet = s.activeSet := by rw [hframe]; rfl
  have hsite : t.siteRecord = s.siteRecord := by rw [hframe]; rfl
  have hpoint : t.pointOrNone = s.pointOrNone := by rw [hframe]; rfl
  have hreturned : t.returnedRow z k = s.returnedRow z k := by
    unfold State.returnedRow State.returns
    rw [hk, hset, hsite]
  have hnotice : t.returnNotice z sweep k = s.returnNotice z sweep k := by
    unfold State.returnNotice
    rw [hk, hset, hsite, hpoint]
  have hnotices : t.NoticesOf (s.queuing ((List.range k).filterMap (s.returnNotice z sweep))) := by
    rw [hframe]
    exact State.noticesOf_withNotices _ _
  rw [returnArcRow_eq, hreturned, hnotice]
  refine ⟨⟨t.rowRuntimes.set k (s.returnedRow z k), ?_⟩, fun r => ?_⟩
  · have hlist : (s.returnNotice z sweep k).toList = [k].filterMap (s.returnNotice z sweep) := by
      cases h : s.returnNotice z sweep k <;> simp [h]
    rw [List.range_succ, List.filterMap_append, State.queuing_append, State.queuing_eq_withNotices hnotices, hframe, hlist]
    rfl
  · refine (getD_set t.rowRuntimes k r _ none).trans ?_
    have hkept : t.rowRuntimes.getD r none = _ := hrows r
    rw [hkept]
    obtain rfl | hne := eq_or_ne k r
    · by_cases hlt : k < t.rowRuntimes.length
      · rw [if_pos ⟨rfl, hlt⟩, if_pos (Nat.lt_succ_self k)]
      · have hout : t.rowRuntime k = none := by simp [State.rowRuntime, Nat.not_lt.mp hlt]
        rw [if_neg fun h => hlt h.2, if_neg (Nat.lt_irrefl k), if_pos (Nat.lt_succ_self k), State.returnedRow, ← hk, hout]
        rfl
    · have hlt : r < k + 1 ↔ r < k := by omega
      simp only [hne, false_and, if_false, hlt]

theorem State.returns_iff (s : State) (z r : Nat) (hr : r < rowCount) : s.returns z r = true ↔ s.ReturnsRow z r := by
  unfold State.ReturnsRow State.returns
  rw [Option.any_eq_true]
  refine ⟨fun ⟨d, hd, hret⟩ => ⟨hr, d, hd, ?_⟩, fun ⟨_, d, hd, harc, hscope⟩ => ⟨d, hd, ?_⟩⟩
  · obtain ⟨harc, hscope⟩ := (Bool.and_eq_true ..).mp hret
    refine ⟨eq_of_beq harc, ?_⟩
    cases hd' : d.scope with
    | lane l =>
      rw [hd'] at hscope
      exact .inr ⟨l, rfl, by simpa [TableSet.isMember] using hscope⟩
    | zone z' =>
      rw [hd'] at hscope
      exact .inl (congrArg Scope.zone (eq_of_beq hscope).symm)
    | site =>
      rw [hd'] at hscope
      exact absurd hscope Bool.false_ne_true
  · refine (Bool.and_eq_true ..).mpr ⟨beq_iff_eq.mpr harc, ?_⟩
    obtain hzone | ⟨l, hlane, hl, hof⟩ := hscope
    · rw [hzone]
      exact beq_self_eq_true z
    · rw [hlane]
      simp [TableSet.isMember, hl, hof]

/-- Row `r` with what its release notice at a blank entry of zone `z` shows, when it owes one. -/
def State.owedAt (s : State) (z r : Nat) : Option (Nat × Bool × Option Nat) :=
  match s.activeSet.row r, s.rowRuntime r with
  | some d, some q =>
    if returnedByBlank s.activeSet s.siteRecord.lanes z d ∧ (q.phase = .asserted ∨ q.phase = .clearing) ∧ d.report = .alert
    then some (r, q.latched, (s.pointOrNone d.source).value)
    else none
  | _, _ => none

theorem State.returnNotice_eq (s : State) (z : Nat) (sweep : SweepNo) (r : Nat) :
    s.returnNotice z sweep r = (s.owedAt z r).map fun x => rowNotice x.1 .idle x.2.1 x.2.2 sweep := by
  unfold State.returnNotice State.owedAt
  cases s.activeSet.row r with
  | none => rfl
  | some d =>
    cases s.rowRuntime r with
    | none => rfl
    | some q =>
      dsimp only
      split <;> rfl

theorem State.owedAt_eq_some {s : State} {z r : Nat} (hr : r < rowCount) {x : Nat × Bool × Option Nat} :
    s.owedAt z r = some x ↔ x.1 = r ∧ s.OwesReturnNotice z r x.2.1 x.2.2 := by
  obtain ⟨r', b, v⟩ := x
  have hreturns := s.returns_iff z r hr
  unfold State.returns at hreturns
  unfold State.owedAt State.OwesReturnNotice
  rw [← hreturns]
  cases hd : s.activeSet.row r with
  | none => simp
  | some d =>
    cases hq : s.rowRuntime r with
    | none => simp
    | some q =>
      simp only [Option.ite_none_right_eq_some, Option.some.injEq, Option.any_some, Prod.mk.injEq]
      constructor
      · rintro ⟨⟨hret, hphase, halert⟩, rfl, rfl, rfl⟩
        exact ⟨rfl, hret, d, q, rfl, rfl, halert, hphase, rfl, rfl⟩
      · rintro ⟨rfl, hret, d', q', rfl, rfl, halert, hphase, rfl, rfl⟩
        exact ⟨⟨hret, hphase, halert⟩, rfl, rfl, rfl⟩

/-! ### The entry into BLANK (R127) -/

/-- A zone that enters BLANK with this history. -/
def State.blankZone (s : State) (history : List SweepNo) : Zone :=
  { state := .blank, blankRemaining := s.activeSet.parameters.blankingCount, arcHistory := history }

/-- `t` is `s` after zone `z` has entered BLANK. -/
structure State.BlankEntered (s : State) (z : Nat) (history : List SweepNo) (sweep : SweepNo) (t : State) : Prop where
  frame : ∃ lanes rows, t = State.withNotices
    { s with
      zones := s.zones.set z (s.blankZone history), lanes := lanes, rowRuntimes := rows, evaluation := t.evaluation }
    (s.queuing (zoneNotice z (s.blankZone history) sweep ::
      (List.range rowCount).filterMap (s.returnNotice z sweep)))
  moved : ∀ k, k ∈ s.activeSet.members s.siteRecord.lanes z ∧ (s.lane k).movable → t.lane k = (s.lane k).blanked
  unmoved : ∀ k, ¬ (k ∈ s.activeSet.members s.siteRecord.lanes z ∧ (s.lane k).movable) → t.lane k = s.lane k
  row : ∀ r, t.rowRuntime r = if r < rowCount then s.returnedRow z r else s.rowRuntime r
  idle : s.evaluation = none → t.evaluation = none
  evaluation : ∀ e, s.evaluation = some e → ∃ m, t.evaluation = some { e with movedFrom := m } ∧
    ∀ k, k < e.movedFrom.length →
      ((k ∈ s.activeSet.members s.siteRecord.lanes z ∧ (s.lane k).movable) →
        m.getD k none = some (s.lane k).movedState) ∧
      (¬ (k ∈ s.activeSet.members s.siteRecord.lanes z ∧ (s.lane k).movable) →
        m.getD k none = e.movedFrom.getD k none)

theorem State.blankEntered_enterBlank (s : State) (z : Nat) (history : List SweepNo) (sweep : SweepNo) :
    s.BlankEntered z history sweep (s.enterBlank z history sweep) := by
  have hqueued : (s.setZone z (s.blankZone history)).queueNotice (zoneNotice z (s.blankZone history) sweep) =
      State.withNotices (s.setZone z (s.blankZone history)) (s.queuing [zoneNotice z (s.blankZone history) sweep]) :=
    State.queueNotice_eq_withNotices (q := s) (by exact ⟨rfl, rfl, rfl⟩) _
  have hrun : s.enterBlank z history sweep = forEach (List.range rowCount) (returnArcRow z sweep)
      (forEach (s.activeSet.members s.siteRecord.lanes z) blankLane
        ((s.setZone z (s.blankZone history)).queueNotice (zoneNotice z (s.blankZone history) sweep))) := by
    unfold State.enterBlank
    dsimp only [undisturbed]
    simp only [State.queueNotice_activeSet, State.queueNotice_siteRecord, State.setZone_activeSet,
      State.setZone_siteRecord]
    rfl
  rw [hrun, hqueued]
  generalize hu : State.withNotices (s.setZone z (s.blankZone history))
    (s.queuing [zoneNotice z (s.blankZone history) sweep]) = u
  obtain ⟨⟨lanes, hframe⟩, hlanes, hnone, hsome⟩ :=
    forEach_blankLane (TableSet.nodup_members s.activeSet s.siteRecord.lanes z) u
  generalize forEach (s.activeSet.members s.siteRecord.lanes z) blankLane u = b at *
  obtain ⟨⟨rows, hframe'⟩, hrows⟩ := forEach_returnArcRow b z sweep rowCount
  generalize forEach (List.range rowCount) (returnArcRow z sweep) b = t at *
  have hlane (k : Nat) : u.lane k = s.lane k := by rw [← hu]; rfl
  have htlane (k : Nat) : t.lane k = b.lane k := by rw [hframe']; rfl
  have hteval : t.evaluation = b.evaluation := by rw [hframe']; rfl
  have hueval : u.evaluation = s.evaluation := by rw [← hu]; rfl
  have hreturned : b.returnedRow z = s.returnedRow z := by rw [hframe, ← hu]; rfl
  have hrow (r : Nat) : b.rowRuntime r = s.rowRuntime r := by rw [hframe, ← hu]; rfl
  have hnotice : b.returnNotice z sweep = s.returnNotice z sweep := by rw [hframe, ← hu]; rfl
  have hnotices : b.NoticesOf (s.queuing [zoneNotice z (s.blankZone history) sweep]) := by
    rw [hframe, ← hu]
    exact ⟨rfl, rfl, rfl⟩
  simp only [hlane] at hlanes hsome
  rw [hueval] at hnone hsome
  refine ⟨⟨lanes, rows, ?_⟩, fun k hk => (htlane k).trans ((hlanes k).1 hk),
    fun k hk => (htlane k).trans ((hlanes k).2 hk), fun r => ?_, fun h => hteval.trans (hnone h), fun e he => ?_⟩
  · rw [hteval, hframe', hnotice, State.queuing_eq_withNotices hnotices]
    generalize b.evaluation = x at hframe
    rw [hframe, ← hu]
    rfl
  · rw [hrows, hreturned, hrow]
  · rw [hteval]
    exact hsome e he

/-! ### Which zones receive an arc (R65, R68, R122) -/

theorem State.mem_headArcZones {s : State} {c : Classified} {z : Nat} :
    z ∈ s.headArcZones c ↔ z < s.siteRecord.zones ∧ ∃ k r e,
      k < headCount ∧ c.record k = some r ∧ r.arcFlag = true ∧ s.activeSet.head k = some e ∧
      (e.arcScope = .zone z ∨ e.arcScope = .site) := by
  unfold State.headArcZones State.headArcReaches Classified.headArc
  rw [List.mem_filter, List.mem_range, List.any_eq_true]
  refine and_congr_right fun hz => ⟨fun ⟨k, hk, hreach⟩ => ?_, ?_⟩
  · obtain ⟨harc, hscope⟩ := (Bool.and_eq_true ..).mp hreach
    obtain ⟨r, hr, hflag⟩ := (Option.any_eq_true ..).mp harc
    cases he : s.activeSet.head k with
    | none => simp [he] at hscope
    | some e =>
      rw [he] at hscope
      dsimp only at hscope
      refine ⟨k, r, e, List.mem_range.mp hk, hr, hflag, he, ?_⟩
      cases hs : e.arcScope with
      | none => simp [arcScopeReaches, hs] at hscope
      | zone z' =>
        rw [hs] at hscope
        exact .inl (congrArg ArcScope.zone (eq_of_beq ((Bool.and_eq_true ..).mp hscope).1).symm)
      | site => exact .inr rfl
  · rintro ⟨k, r, e, hk, hr, hflag, he, hscope⟩
    refine ⟨k, List.mem_range.mpr hk, (Bool.and_eq_true ..).mpr ⟨(Option.any_eq_true ..).mpr ⟨r, hr, hflag⟩, ?_⟩⟩
    rw [he]
    obtain hs | hs := hscope <;> simp [arcScopeReaches, hs, hz]

theorem reaches_iff {t : TableSet} {zones z : Nat} (hz : z < zones) (scope : Scope) :
    reaches t zones scope z = true ↔ scope.ReachesZone t z := by
  unfold Scope.ReachesZone
  cases scope with
  | lane l => simp [reaches, hz]
  | zone z' =>
    have hsame : Scope.zone z' = .zone z ↔ z = z' := by rw [Scope.zone.injEq, eq_comm]
    simp [reaches, hz, hsame]
  | site => simp [reaches, hz]

theorem State.exists_comparesWith (s : State) (d : RowEntry) : ∃ threshold release, s.ComparesWith d threshold release := by
  cases hscale : s.rowScale d with
  | some level => exact ⟨_, _, .inl ⟨level, State.rowScale_eq_some.mp hscale, rfl, rfl⟩⟩
  | none =>
    refine ⟨_, _, .inr ⟨fun level h => ?_, rfl, rfl⟩⟩
    exact absurd (hscale.symm.trans (State.rowScale_eq_some.mpr h)) nofun

theorem State.advances_of_advanceValue {s : State} {d : RowEntry} {v : Nat} (h : s.advanceValue d = some v) :
    s.Advances d v (s.rowOutcome d v) := by
  obtain ⟨hvalid, hquiet, hgate, hvalue⟩ := State.advanceValue_eq_some.mp h
  obtain ⟨threshold, release, hcompares⟩ := s.exists_comparesWith d
  refine ⟨hvalid, hquiet, hvalue, hgate, threshold, release, hcompares, ?_⟩
  rw [State.rowOutcome_of_comparesWith hcompares]
  unfold compareRow
  rfl

theorem State.arcAsserted_iff (s : State) (sweep : SweepNo) (r : Nat) :
    s.arcAsserted sweep r = true ↔ ∃ d x v o, s.activeSet.row r = some d ∧ s.rowRuntime r = some x ∧ d.action = .arc ∧
      s.Advances d v o ∧ (phaseStep d x.phase x.progress o).2.2 = .asserted := by
  unfold State.arcAsserted
  cases hd : s.activeSet.row r with
  | none => simp
  | some d =>
    cases hx : s.rowRuntime r with
    | none => simp
    | some x =>
      simp only [Bool.and_eq_true, beq_iff_eq]
      constructor
      · rintro ⟨harc, hasserted⟩
        cases hv : s.advanceValue d with
        | none =>
          rw [State.rowStep_of_frozen hd hv] at hasserted
          exact absurd hasserted nofun
        | some v =>
          have hadvances := State.advances_of_advanceValue hv
          rw [State.rowStep_of_advances hd hadvances] at hasserted
          exact ⟨d, x, v, _, rfl, rfl, harc, hadvances, hasserted⟩
      · rintro ⟨d', x', v, o, hd', hx', harc, hadvances, hasserted⟩
        obtain rfl := Option.some.inj hd'
        obtain rfl := Option.some.inj hx'
        refine ⟨harc, ?_⟩
        rw [State.rowStep_of_advances hd hadvances]
        exact hasserted

theorem State.mem_rowArcZones {s : State} {sweep : SweepNo} {z : Nat} :
    z ∈ s.rowArcZones sweep ↔ z < s.siteRecord.zones ∧ ∃ r d x v o,
      r < rowCount ∧ s.activeSet.row r = some d ∧ s.rowRuntime r = some x ∧ d.action = .arc ∧ s.Advances d v o ∧
      (phaseStep d x.phase x.progress o).2.2 = .asserted ∧ d.scope.ReachesZone s.activeSet z := by
  unfold State.rowArcZones
  rw [List.mem_filter, List.mem_range, List.any_eq_true]
  refine and_congr_right fun hz => ⟨fun ⟨r, hr, hreach⟩ => ?_, ?_⟩
  · obtain ⟨harc, hscope⟩ := (Bool.and_eq_true ..).mp hreach
    obtain ⟨d, x, v, o, hd, hx, haction, hadvances, hasserted⟩ := (s.arcAsserted_iff sweep r).mp harc
    rw [hd] at hscope
    exact ⟨r, d, x, v, o, List.mem_range.mp hr, hd, hx, haction, hadvances, hasserted, (reaches_iff hz d.scope).mp hscope⟩
  · rintro ⟨r, d, x, v, o, hr, hd, hx, haction, hadvances, hasserted, hscope⟩
    refine ⟨r, List.mem_range.mpr hr, (Bool.and_eq_true ..).mpr
      ⟨(s.arcAsserted_iff sweep r).mpr ⟨d, x, v, o, hd, hx, haction, hadvances, hasserted⟩, ?_⟩⟩
    rw [hd]
    exact (reaches_iff hz d.scope).mpr hscope

/-! ### The judgement (R125, R126, R129) -/

theorem pruneHistory_eq (window : Nat) (sweep : SweepNo) (history : List SweepNo) :
    pruneHistory window sweep history = history.filter fun e => decide ((sweep - e).toNat < window) := by
  unfold pruneHistory outOfWindow
  simp only [← decide_not, Nat.not_le]

section Judgement

variable {s : State} {sweep : SweepNo} {arcs : List Nat} {z : Nat}

/-- Zone `z`'s arc history without the entries that have left the arc window. -/
def State.keptArcs (s : State) (sweep : SweepNo) (z : Nat) : List SweepNo :=
  (s.zone z).arcHistory.filter fun e => decide ((sweep - e).toNat < s.activeSet.parameters.arcWindow)

theorem judgeZone_of_pruned (h : ¬ (z ∈ arcs ∧ (s.zone z).state = .normal)) :
    judgeZone sweep arcs z s = s.setZone z { s.zone z with arcHistory := s.keptArcs sweep z } := by
  unfold judgeZone State.keptArcs
  dsimp only [undisturbed]
  rw [if_neg (by simpa using h), pruneHistory_eq]

theorem judgeZone_of_lockout (hz : z ∈ arcs) (hnormal : (s.zone z).state = .normal)
    (hlimit : s.activeSet.parameters.arcLimit ≤ (s.keptArcs sweep z).length + 1) :
    judgeZone sweep arcs z s = s.enterLockout z (s.keptArcs sweep z ++ [sweep]) sweep := by
  unfold judgeZone
  dsimp only [undisturbed]
  rw [if_pos (by simpa using ⟨hz, hnormal⟩), pruneHistory_eq]
  exact if_pos (by rw [List.length_append]; exact hlimit)

theorem judgeZone_of_blank (hz : z ∈ arcs) (hnormal : (s.zone z).state = .normal)
    (hlimit : (s.keptArcs sweep z).length + 1 < s.activeSet.parameters.arcLimit) :
    judgeZone sweep arcs z s = s.enterBlank z (s.keptArcs sweep z ++ [sweep]) sweep := by
  have hnot : ¬ s.activeSet.parameters.arcLimit ≤ (s.keptArcs sweep z ++ [sweep]).length := by
    rw [List.length_append]
    exact Nat.not_le.mpr hlimit
  unfold judgeZone
  dsimp only
  rw [if_pos (by simpa using ⟨hz, hnormal⟩), pruneHistory_eq]
  exact if_neg hnot

end Judgement

theorem Lane.blanked_eq (v : Lane) : v.blanked = { v with
    state := .blank, restriking := false, probeOwed := v.probeOwed || v.state == .probe
    probeRemaining := if v.state = .probe then 0 else v.probeRemaining } := by
  unfold Lane.blanked Lane.abandonProbe
  by_cases hprobe : v.state = .probe
  · simp [hprobe]
  · have hne : (v.state == .probe) = false := beq_eq_false_iff_ne.mpr hprobe
    simp [hprobe, hne]

theorem State.enterLockout_eq (s : State) (z : Nat) (history : List SweepNo) (sweep : SweepNo) :
    s.enterLockout z history sweep = State.withNotices
      (s.setZone z { state := .lockout, blankRemaining := 0, arcHistory := history })
      (s.queuing [zoneNotice z { state := .lockout, blankRemaining := 0, arcHistory := history } sweep]) :=
  State.queueNotice_eq_withNotices (q := s) (by exact ⟨rfl, rfl, rfl⟩) _

theorem State.eq_of_judged {s t q : State} {zones lanes rows}
    (h : t = State.withNotices
      { s with zones := zones, lanes := lanes, rowRuntimes := rows, evaluation := t.evaluation } q) :
    t = { s with
      zones := t.zones, lanes := t.lanes, rowRuntimes := t.rowRuntimes, evaluation := t.evaluation
      notices := t.notices, noticesDropped := t.noticesDropped, droppedCount := t.droppedCount } := by
  generalize t.evaluation = e at h ⊢
  subst h
  rfl

/-- The rows that owe a release notice, in ascending index, are those whose notices the blank entry queues. -/
theorem State.owed_notices {s : State} {z : Nat} (sweep : SweepNo) {owed : List (Nat × Bool × Option Nat)}
    (hascends : (owed.map (·.1)).Pairwise (· < ·)) (hmem : ∀ r b v, (r, b, v) ∈ owed ↔ s.OwesReturnNotice z r b v) :
    (owed.map fun x =>
      ({ subject := .row x.1, state := .row .idle x.2.1, value := NoticeValue.ofOption x.2.2, sweep, changes := 1 } : Notice)) =
      (List.range rowCount).filterMap (s.returnNotice z sweep) := by
  have howed : owed = (List.range rowCount).filterMap (s.owedAt z) := by
    refine List.Pairwise.eq_of_mem_iff (List.pairwise_map.mp hascends) ?_ fun x => ?_
    · have hascending : (List.range rowCount).Pairwise fun r r' => r < r' ∧ r < rowCount ∧ r' < rowCount :=
        (List.pairwise_lt_range (n := rowCount)).imp_of_mem
          fun hr hr' hlt => ⟨hlt, List.mem_range.mp hr, List.mem_range.mp hr'⟩
      refine List.Pairwise.filterMap _ (fun r r' ⟨hlt, hr, hr'⟩ x hx x' hx' => ?_) hascending
      rwa [((State.owedAt_eq_some hr).mp hx).1, ((State.owedAt_eq_some hr').mp hx').1]
    · rw [hmem, List.mem_filterMap]
      refine ⟨fun h => ⟨x.1, List.mem_range.mpr h.1.1, (State.owedAt_eq_some h.1.1).mpr ⟨rfl, h⟩⟩, ?_⟩
      rintro ⟨r, hr, hx⟩
      obtain ⟨rfl, howes⟩ := (State.owedAt_eq_some (List.mem_range.mp hr)).mp hx
      exact howes
  rw [howed, List.map_filterMap]
  refine List.filterMap_congr fun r _ => ?_
  rw [State.returnNotice_eq]
  rfl

theorem State.zone_of_setZone {s t q : State} {z : Nat} {v : Zone} (h : t = State.withNotices (s.setZone z v) q)
    (hz : z < s.zones.length) : t.zone z = v ∧ ∀ k, k ≠ z → t.zone k = s.zone k := by
  subst h
  exact ⟨State.zone_setZone_self s z v hz, fun k hk => State.zone_setZone_ne s v hk.symm⟩

theorem State.frame_of_setZone {s t q : State} {z : Nat} {v : Zone} (h : t = State.withNotices (s.setZone z v) q) :
    (t.lanes = s.lanes ∧ t.evaluation = s.evaluation ∧ t.rowRuntimes = s.rowRuntimes) ∧
    t = { s with
      zones := t.zones, lanes := t.lanes, rowRuntimes := t.rowRuntimes, evaluation := t.evaluation
      notices := t.notices, noticesDropped := t.noticesDropped, droppedCount := t.droppedCount } := by
  subst h
  exact ⟨⟨rfl, rfl, rfl⟩, rfl⟩

theorem zoneNotice_grown (z : Nat) (state : ZoneState) (remaining : Nat) (history : List SweepNo) (sweep : SweepNo) :
    zoneNotice z { state, blankRemaining := remaining, arcHistory := history ++ [sweep] } sweep =
      { subject := .zone z, state := .zone state, value := .number (history.length + 1), sweep, changes := 1 } := by
  unfold zoneNotice
  rw [List.length_append]
  rfl

theorem State.BlankEntered.zone {s t : State} {z : Nat} {history : List SweepNo} {sweep : SweepNo}
    (h : s.BlankEntered z history sweep t) (hz : z < s.zones.length) :
    t.zone z = s.blankZone history ∧ ∀ k, k ≠ z → t.zone k = s.zone k := by
  obtain ⟨lanes, rows, hframe⟩ := h.frame
  have hzones : t.zones = s.zones.set z (s.blankZone history) := by rw [hframe]; rfl
  have hzone : t.zone = (s.setZone z (s.blankZone history)).zone := by unfold State.zone; rw [hzones]; rfl
  rw [hzone]
  exact ⟨State.zone_setZone_self s z _ hz, fun k hk => State.zone_setZone_ne s _ hk.symm⟩

theorem State.BlankEntered.noticesOf {s t : State} {z : Nat} {history : List SweepNo} {sweep : SweepNo}
    (h : s.BlankEntered z history sweep t) :
    t.NoticesOf (s.queuing (zoneNotice z (s.blankZone history) sweep ::
      (List.range rowCount).filterMap (s.returnNotice z sweep))) := by
  obtain ⟨lanes, rows, hframe⟩ := h.frame
  rw [hframe]
  exact State.noticesOf_withNotices _ _

theorem State.BlankEntered.row_of_returns {s t : State} {z : Nat} {history : List SweepNo} {sweep : SweepNo}
    (h : s.BlankEntered z history sweep t) {r : Nat} {x : RowRuntime} (hret : s.ReturnsRow z r)
    (hx : s.rowRuntime r = some x) : t.rowRuntime r = some { x with phase := .idle, progress := 0 } := by
  have hreturned := (s.returns_iff z r hret.1).mpr hret
  rw [h.row, if_pos hret.1, State.returnedRow, hx, Option.map_some, if_pos hreturned]

theorem State.BlankEntered.row_of_kept {s t : State} {z : Nat} {history : List SweepNo} {sweep : SweepNo}
    (h : s.BlankEntered z history sweep t) {r : Nat} (hkept : ¬ s.ReturnsRow z r ∨ s.rowRuntime r = none) :
    t.rowRuntime r = s.rowRuntime r := by
  rw [h.row]
  refine ite_eq_right_iff.mpr fun hr => ?_
  unfold State.returnedRow
  obtain hnot | hnone := hkept
  · simp only [Bool.eq_false_iff.mpr (mt (s.returns_iff z r hr).mp hnot), Bool.false_eq_true, if_false, Option.map_id']
  · rw [hnone]
    rfl

/-- Settles O37: the judgement's three forms, each as one state. -/
theorem arcIsJudgedByTheZonesState : Obligations.ArcIsJudgedByTheZonesState := by
  unfold Obligations.ArcIsJudgedByTheZonesState
  intro s sweep arcs z hz q kept t after zoneNotice' moved
  have hmoved (l : Nat) : moved l ↔ l ∈ s.activeSet.members s.siteRecord.lanes z ∧ (s.lane l).movable := by
    rw [TableSet.mem_members, and_assoc]
    rfl
  have hkept : s.keptArcs sweep z = kept := rfl
  have hsite := @State.mem_headArcZones s
  have hrows := @State.mem_rowArcZones s sweep z
  by_cases harc : z ∈ arcs ∧ (s.zone z).state = .normal
  · obtain ⟨hin, hnormal⟩ := harc
    have hnot : ¬ (z ∉ arcs ∨ (s.zone z).state ≠ .normal) := fun h => h.elim (fun h => h hin) fun h => h hnormal
    by_cases hlimit : q.arcLimit ≤ kept.length + 1
    · have ht : t = _ := (judgeZone_of_lockout hin hnormal hlimit).trans (s.enterLockout_eq z _ sweep)
      rw [zoneNotice_grown, hkept] at ht
      obtain ⟨hself, hothers⟩ := State.zone_of_setZone ht hz
      obtain ⟨hsame, hframe⟩ := State.frame_of_setZone ht
      refine ⟨fun _ _ => ⟨fun _ => ⟨hself, ?_⟩, fun h => absurd hlimit (Nat.not_le.mpr h)⟩, fun h => absurd h hnot,
        fun _ _ h => absurd hlimit (Nat.not_le.mpr h), fun _ => hsame, hothers, hsame.2.1.trans, hframe,
        fun _ => hsite, hrows⟩
      rw [ht]
      exact State.noticesOf_withNotices _ _
    · have hbelow : kept.length + 1 < q.arcLimit := Nat.not_le.mp hlimit
      have ht : t = _ := judgeZone_of_blank hin hnormal hbelow
      have hentered := s.blankEntered_enterBlank z (kept ++ [sweep]) sweep
      rw [hkept] at ht
      rw [← ht] at hentered
      obtain ⟨hself, hothers⟩ := hentered.zone hz
      obtain ⟨lanes, rows, hframe⟩ := hentered.frame
      refine ⟨fun _ _ => ⟨fun h => absurd h hlimit, fun _ => hself⟩, fun h => absurd h hnot,
        fun _ _ _ => ⟨fun l _ => ⟨fun h => ?_, fun h => ?_⟩, fun e he => ?_, fun r x => hentered.row_of_returns,
          fun r => hentered.row_of_kept, fun owed hascends hmem => ?_⟩,
        fun h => ?_, hothers, hentered.idle, State.eq_of_judged hframe, fun _ => hsite, hrows⟩
      · exact (hentered.moved l ((hmoved l).mp h)).trans (Lane.blanked_eq _)
      · exact hentered.unmoved l (mt (hmoved l).mpr h)
      · simp only [hmoved]
        exact hentered.evaluation e he
      · rw [State.owed_notices sweep hascends hmem]
        have hnotices := hentered.noticesOf
        rw [State.blankZone, zoneNotice_grown] at hnotices
        exact hnotices
      · exact absurd h (by rw [← or_assoc]; exact not_or.mpr ⟨hnot, hlimit⟩)
  · have ht : t = State.withNotices (s.setZone z { s.zone z with arcHistory := kept }) s := judgeZone_of_pruned harc
    obtain ⟨hself, hothers⟩ := State.zone_of_setZone ht hz
    obtain ⟨hsame, hframe⟩ := State.frame_of_setZone ht
    refine ⟨fun hin hnormal => absurd ⟨hin, hnormal⟩ harc, fun _ => ⟨hself, ?_⟩,
      fun hin hnormal => absurd ⟨hin, hnormal⟩ harc, fun _ => hsame, hothers, hsame.2.1.trans, hframe,
      fun _ => hsite, hrows⟩
    rw [ht]
    exact State.noticesOf_withNotices _ _

end Sys2Proof.Machine

/-! PROOFS. The arc line (R130 to R132) and the completion of an evaluation (R133, R168). -/

namespace Sys2Proof.Machine

/-! ### Step 4: the arc line is resolved -/

theorem State.resolvesArcLine_iff (s : State) (c : Classified) :
    s.resolvesArcLine c = true ↔
      s.forceArcLine = true ∧ c.valid = true ∧ (c.sweep - s.resolvingSweep).toNat < 2147483648 := by
  unfold State.resolvesArcLine atOrAfter
  rw [Bool.and_eq_true, Bool.and_eq_true, decide_eq_true_eq, and_assoc]

theorem resolveArcLine_of_not {s : State} {c : Classified} (h : ¬ s.resolvesArcLine c = true) (headZones : List Nat) :
    resolveArcLine c headZones s = s := if_neg h

/-- The notices of a resolution: ARC_LINE_STUCK raised, then SPURIOUS_ARC. -/
def State.resolutionNotices (s : State) (c : Classified) (headZones : List Nat) : List Notice :=
  (if s.arcLow then [conditionNotice .arcLineStuck true .none c.sweep] else []) ++
  (if headZones = [] then [spuriousNotice c] else [])

theorem State.decideRemoval_sampleArcLine (s : State) (sweep : SweepNo) :
    (s.sampleArcLine sweep).decideRemoval = State.withNotices
      { s with
        arcMasked := s.arcMasked || s.arcLow
        evaluation := s.evaluation.map fun (e : EvalProgress) => { e with removalDecided := true } }
      (s.queuing (if s.arcLow then [conditionNotice .arcLineStuck true .none sweep] else [])) := by
  unfold State.sampleArcLine
  by_cases hlow : s.arcLow
  · have hmask : (s.arcMasked || s.arcLow) = true := by rw [hlow, Bool.or_true]
    rw [if_pos hlow, if_pos hlow, hmask,
      State.queueNotice_eq_withNotices (q := s) (s := { s with arcMasked := true }) (by exact ⟨rfl, rfl, rfl⟩)]
    rfl
  · have hmask : (s.arcMasked || s.arcLow) = s.arcMasked := by rw [Bool.eq_false_iff.mpr hlow, Bool.or_false]
    rw [if_neg hlow, if_neg hlow, hmask]
    rfl

theorem resolveArcLine_of_resolves {s : State} {c : Classified} (h : s.resolvesArcLine c = true) (headZones : List Nat) :
    resolveArcLine c headZones s = State.withNotices
      { s with
        arcMasked := s.arcMasked || s.arcLow
        evaluation := s.evaluation.map fun (e : EvalProgress) => { e with removalDecided := true } }
      (s.queuing (s.resolutionNotices c headZones)) := by
  unfold resolveArcLine State.resolutionNotices
  dsimp only [undisturbed]
  rw [if_pos h, State.decideRemoval_sampleArcLine]
  by_cases hnone : headZones = []
  · rw [if_pos (List.isEmpty_iff.mpr hnone), if_pos hnone, State.queuing_append,
      State.queueNotice_eq_withNotices (State.noticesOf_withNotices _ _)]
    rfl
  · rw [if_neg (mt List.isEmpty_iff.mp hnone), if_neg hnone, List.append_nil]

/-! ### Completion -/

theorem exec_evaluationComplete {s : State} (h : s.inReset = false) :
    exec .evaluationComplete s = .next s.completeEvaluation :=
  congrArg _ (State.unlessReset_of_running h State.completeEvaluation)

theorem State.completeEvaluation_of_some {s : State} {e : EvalProgress} (h : s.evaluation = some e) :
    s.completeEvaluation = s.endEvaluation.drainCommands :=
  if_pos (by rw [State.evaluating, h]; rfl)

/-- A decided removal takes effect at completion. -/
theorem State.endEvaluation_eq {s ended : State} {e : EvalProgress} (h : s.evaluation = some e)
    (hended : (e.removalDecided = false ∧ ended = { s with evaluation := none }) ∨
      (e.removalDecided = true ∧ s.arcLow = true ∧ s.arcMasked = false ∧
        ended = { s with evaluation := none, resolvingSweep := s.sweepNumber + 1 }) ∨
      (e.removalDecided = true ∧ (s.arcLow = false ∨ s.arcMasked = true) ∧
        ended = { s with evaluation := none, forceArcLine := false })) :
    s.endEvaluation = ended := by
  unfold State.endEvaluation
  rw [h]
  obtain ⟨hdecided, rfl⟩ | ⟨hdecided, hlow, hmask, rfl⟩ | ⟨hdecided, hkept, rfl⟩ := hended
  · simp only [hdecided, Bool.false_eq_true, if_false]
  · simp only [hdecided, if_true, State.removeArcLine, hlow, hmask, Bool.not_false, Bool.and_self]
  · have hleaves : (s.arcLow && !s.arcMasked) = false := by obtain h | h := hkept <;> simp [h]
    simp only [hdecided, if_true, State.removeArcLine, hleaves, Bool.false_eq_true, if_false]

/-- Of the fields that the command queue reads, an evaluation's end changes the evaluation alone. -/
theorem State.endEvaluation_desk {s : State} {e : EvalProgress} (h : s.evaluation = some e) :
    s.endEvaluation.commands = s.commands ∧ s.endEvaluation.replies = s.replies ∧ s.endEvaluation.waiting = s.waiting ∧
    s.endEvaluation.inReset = s.inReset ∧ s.endEvaluation.evaluation = none := by
  unfold State.endEvaluation State.removeArcLine
  rw [h]
  dsimp only
  split
  · split <;> exact ⟨rfl, rfl, rfl, rfl, rfl⟩
  · exact ⟨rfl, rfl, rfl, rfl, rfl⟩

/-- A command that arrives where fewer than four places are held and nothing else is queued is taken at once. -/
theorem State.submit_of_alone {s : State} {d : QueuedCommand} (hone : s.commands = [d]) (hplace : s.replies.length < 4) :
    State.submit { s with commands := [] } d.tag d.payload = s.drainCommands := by
  have hplaces : State.placesHeld { s with commands := [] } < commandPlaces := by
    have hheld : State.placesHeld { s with commands := [] } = s.replies.length := Nat.zero_add _
    rw [hheld]
    exact hplace
  refine (if_pos hplaces).trans (congrArg State.drainCommands ?_)
  have hqueue : ([] : List QueuedCommand) ++ [⟨d.tag, d.payload⟩] = s.commands := hone.symm
  simp only [hqueue]

/-- An UNKNOWN command at the head is answered before the rest is taken. -/
theorem State.drainCommands_of_unknown {s : State} {d : QueuedCommand} {rest : List QueuedCommand}
    (hholds : s.holdsCommands = false) (hqueue : s.commands = d :: rest)
    (hkind : d.payload.getD 0 0 = 0 ∨ 8 < (d.payload.getD 0 0).toNat) :
    s.drainCommands = State.drainCommands
      (State.answer { s with commands := rest } d.tag (d.payload.getD 0 0) .unknown .empty) := by
  have hhead : s.completeHead .unknown .empty =
      State.answer { s with commands := rest } d.tag (d.payload.getD 0 0) .unknown .empty := by
    unfold State.completeHead
    rw [hqueue]
    rfl
  have hlength : s.commands.length = rest.length + 1 := by rw [hqueue]; rfl
  rw [State.drainCommands, hlength, State.takeCommands, hholds, ← hhead]
  simp only [Bool.false_eq_true, if_false, hqueue, decodeCommand_of_unknown hkind, takeCommand]
  rw [hhead]
  rfl

theorem State.holdsCommands_of_running {s : State} (heval : s.evaluation = none) (hwaiting : s.waiting = none)
    (hrun : s.inReset = false) : s.holdsCommands = false := by
  rw [State.holdsCommands, State.evaluating, State.activationPending, heval, hwaiting, hrun]
  rfl

/-- Settles O39. -/
theorem completionRemovesTheArcLine : Obligations.CompletionRemovesTheArcLine := by
  unfold Obligations.CompletionRemovesTheArcLine
  refine ⟨fun s c headZones rowZones => ?_, fun s hrun => ⟨fun hnone => ?_, fun e ended he hended => ?_⟩⟩
  · intro t resolves count arcs
    have hresolves : s.resolvesArcLine c = true ↔ resolves := s.resolvesArcLine_iff c
    refine ⟨?_, fun hnot => resolveArcLine_of_not (mt hresolves.mp hnot) headZones, fun hres => ?_⟩
    · have harcs : arcs = (List.range s.siteRecord.zones).filter fun z =>
          (s.headArcZones c).contains z || rowZones.contains z :=
        List.filter_congr fun z _ => by simp
      rw [harcs]
      rfl
    · have ht : t = _ := resolveArcLine_of_resolves (hresolves.mpr hres) headZones
      rw [ht]
      exact ⟨rfl, State.noticesOf_withNotices _ _⟩
  · rw [exec_evaluationComplete hrun, State.completeEvaluation_of_none hnone]
  · have hexec : exec .evaluationComplete s = .next ended.drainCommands := by
      rw [exec_evaluationComplete hrun, State.completeEvaluation_of_some he, State.endEvaluation_eq he hended]
    obtain ⟨hcommands, hreplies, hwaits, hreset, heval⟩ := State.endEvaluation_desk he
    rw [State.endEvaluation_eq he hended] at hcommands hreplies hwaits hreset heval
    refine ⟨fun hheld => ?_, hexec, fun d hwaiting hone hplace => ?_, fun d rest hwaiting hqueue hkind => ?_⟩
    · rw [hexec]
      obtain hnone | hwaiting := hheld
      · rw [State.drainCommands_of_none (hcommands.trans hnone)]
      · refine congrArg _ (State.drainCommands_of_holds ?_)
        rw [State.holdsCommands, State.activationPending, hwaits, hwaiting, Bool.or_true, Bool.true_or]
    · rw [hexec, State.submit_of_alone (hcommands.trans hone) (by rw [hreplies]; exact hplace)]
    · rw [hexec, State.drainCommands_of_unknown
        (State.holdsCommands_of_running heval (hwaits.trans hwaiting) (hreset.trans hrun)) (hcommands.trans hqueue) hkind]

end Sys2Proof.Machine

/-! PROOFS. The second stage of an evaluation (R158, R159), the abandonment as an event, and snapshots (R176). -/

namespace Sys2Proof.Machine

/-! ### What blocks an application (R158) -/

theorem State.anyBlank_iff (s : State) :
    s.anyBlank = true ↔ ∃ z, z < s.siteRecord.zones ∧ (s.zone z).state = .blank := by
  simp [State.anyBlank]

theorem State.latchedRows_ne_nil_iff (s : State) :
    s.latchedRows ≠ [] ↔
      ∃ r d q, r < rowCount ∧ s.activeSet.row r = some d ∧ s.rowRuntime r = some q ∧ q.latched = true := by
  rw [ne_eq, List.eq_nil_iff_forall_not_mem, not_forall_not]
  refine exists_congr fun r => ?_
  rw [State.latchedRows, List.mem_filter, List.mem_range]
  cases s.activeSet.row r <;> cases s.rowRuntime r <;> simp

theorem State.lockedLanes_ne_nil_iff (s : State) :
    s.lockedLanes ≠ [] ↔ ∃ l, l < laneCount ∧ (s.lane l).state = .lockout := by
  rw [ne_eq, List.eq_nil_iff_forall_not_mem, not_forall_not]
  simp [State.lockedLanes]

/-! ### Deferral and abandonment (R158) -/

theorem activationStage_of_none {s : State} (h : s.waiting = none) (sweep : SweepNo) :
    activationStage sweep s = (s, fun _ => false) := by
  unfold activationStage
  rw [h]

theorem activationStage_of_blocked {s : State} {w : WaitingActivation} {b : Blocking} (hw : s.waiting = some w)
    (hb : s.blocking = some b) (sweep : SweepNo) :
    activationStage sweep s = (s.deferActivation w b, fun _ => false) := by
  unfold activationStage
  rw [hw, hb]

theorem activationStage_of_free {s : State} {w : WaitingActivation} (hw : s.waiting = some w)
    (hb : s.blocking = none) (sweep : SweepNo) :
    activationStage sweep s = (s.applyActivation w sweep, headChanged s.activeSet w.tables) := by
  unfold activationStage
  rw [hw, hb]

theorem State.completeHead_of_cons {s : State} {c : QueuedCommand} {rest : List QueuedCommand} (h : s.commands = c :: rest)
    (result : ReplyResult) (data : ReplyData) :
    s.completeHead result data = { s with
      commands := rest
      replies := s.replies ++ [{ tag := c.tag, kind := c.payload.getD 0 0, result, data }] } := by
  unfold State.completeHead
  rw [h]

/-! ### Application (R159) -/

/-- The release notice of row `r` at an application of `new`. -/
def State.carriedNotice (s : State) (new : TableSet) (sweep : SweepNo) (r : Nat) : Option Notice :=
  carryNotice r sweep (s.activeSet.row r) (new.row r) (s.rowRuntime r)

/-- The state that an application makes of `s`, before the reply of its ACTIVATE. -/
def State.applied (s : State) (new : TableSet) (sweep : SweepNo) : State :=
  State.withNotices
    { s with
      rowRuntimes := s.rowRuntimes.zipIdx.map fun (q, r) => carryRow (s.activeSet.row r) (new.row r) q
      pointRecords := carryPoints s.activeSet new s.pointRecords
      zones := s.zones.map (carryZone s.siteRecord.lanes s.activeSet new)
      activeSet := new, phase := .service, waiting := none }
    (s.queuing ((List.range rowCount).filterMap (s.carriedNotice new sweep)))

theorem State.applyActivation_eq (s : State) (w : WaitingActivation) (sweep : SweepNo) :
    s.applyActivation w sweep = (s.applied w.tables sweep).completeHead .done (.activated sweep w.deferrals) := by
  have hrows : s.carryRows w.tables sweep = State.withNotices
      { s with rowRuntimes := s.rowRuntimes.zipIdx.map fun (q, r) =>
          carryRow (s.activeSet.row r) (w.tables.row r) q }
      (s.queuing ((List.range rowCount).filterMap (s.carriedNotice w.tables sweep))) := by
    refine (State.queueEach_undisturbed _ _ _ EvalPoint.releasedRow).trans ?_
    exact State.queuing_eq_withNotices (q := s) (by exact ⟨rfl, rfl, rfl⟩) _
  unfold State.applyActivation
  dsimp only
  rw [hrows]
  rfl

theorem getD_zipIdx_map_of_lt {α β : Type} (f : α → Nat → β) {xs : List α} {i : Nat} (h : i < xs.length) (d : α) (e : β) :
    (xs.zipIdx.map fun x => f x.1 x.2).getD i e = f (xs.getD i d) i := by
  simp [List.getD_eq_getElem?_getD, h]

theorem State.applied_pointRecord {s : State} {i : Nat} (h : i < s.pointRecords.length) (new : TableSet) (sweep : SweepNo) :
    (s.applied new sweep).pointRecord i =
      if s.activeSet.point i = new.point i then s.pointRecord i
      else if (new.point i).isSome then some PointRecord.initial else none :=
  getD_zipIdx_map_of_lt (fun p i => if s.activeSet.point i = new.point i then p
    else if (new.point i).isSome then some PointRecord.initial else none) h none none

theorem State.applied_rowRuntime {s : State} {r : Nat} (h : r < s.rowRuntimes.length) (new : TableSet) (sweep : SweepNo) :
    (s.applied new sweep).rowRuntime r = carryRow (s.activeSet.row r) (new.row r) (s.rowRuntime r) :=
  getD_zipIdx_map_of_lt (fun q r => carryRow (s.activeSet.row r) (new.row r) q) h none none

theorem State.applied_zone {s : State} {z : Nat} (h : z < s.zones.length) (new : TableSet) (sweep : SweepNo) :
    (s.applied new sweep).zone z = carryZone s.siteRecord.lanes s.activeSet new (s.zone z) := by
  simp [State.applied, State.withNotices, State.zone, h]

theorem RowEntry.carriedBy_iff (d d' : RowEntry) :
    d.carriedBy d' = true ↔ d.source = d'.source ∧ d.scope = d'.scope ∧ d.action = d'.action := by
  simp [RowEntry.carriedBy, and_assoc]

theorem carryRow_of_dropped (old : Option RowEntry) (q : Option RowRuntime) : carryRow old none q = none := by
  unfold carryRow
  split <;> simp_all

theorem carryRow_of_carried {d d' : RowEntry} (h : d.carriedBy d' = true) (q : RowRuntime) :
    carryRow (some d) (some d') (some q) = some { q with ceilingInForce := carriedCeiling d' q } := if_pos h

theorem carryRow_of_new {old : Option RowEntry} {d' : RowEntry} (h : ∀ d, old = some d → ¬ d.carriedBy d' = true)
    (q : Option RowRuntime) : carryRow old (some d') q = some RowRuntime.initial := by
  cases old with
  | none => rfl
  | some d =>
    cases q with
    | none => rfl
    | some q => exact if_neg (h d rfl)

theorem zonePlanChanged_iff (lanes : Nat) (old new : TableSet) :
    zonePlanChanged lanes old new = true ↔ ∃ l, l < lanes ∧ old.zoneOf l ≠ new.zoneOf l := by
  simp [zonePlanChanged]

theorem carryZone_of_changed {lanes : Nat} {old new : TableSet} (h : ∃ l, l < lanes ∧ old.zoneOf l ≠ new.zoneOf l)
    (v : Zone) : carryZone lanes old new v = { v with arcHistory := [] } :=
  if_pos ((zonePlanChanged_iff lanes old new).mpr h)

theorem carryZone_of_same {lanes : Nat} {old new : TableSet} (h : ∀ l, l < lanes → old.zoneOf l = new.zoneOf l)
    (v : Zone) : carryZone lanes old new v =
      if new.parameters.arcLimit < old.parameters.arcLimit ∧ new.parameters.arcLimit ≤ v.arcHistory.length then
        { v with arcHistory := v.arcHistory.drop (v.arcHistory.length - (new.parameters.arcLimit - 1)) }
      else v := by
  have hsame : ¬ zonePlanChanged lanes old new = true := fun hc =>
    let ⟨l, hl, hne⟩ := (zonePlanChanged_iff lanes old new).mp hc
    hne (h l hl)
  unfold carryZone trimHistory
  rw [if_neg hsame, ite_and]
  split
  · split <;> rfl
  · rfl

/-- Row `r` owes a release notice at an application of `new`, as a test. -/
def State.owesRelease (s : State) (new : TableSet) (r : Nat) : Bool := (s.carriedNotice new 0 r).isSome

theorem State.carriedNotice_eq (s : State) (new : TableSet) (sweep : SweepNo) (r : Nat) :
    s.carriedNotice new sweep r = if s.owesRelease new r then some (rowNotice r .idle false none sweep) else none := by
  unfold State.owesRelease State.carriedNotice carryNotice
  cases s.activeSet.row r with
  | none => rfl
  | some d =>
    cases s.rowRuntime r with
    | none => rfl
    | some q =>
      dsimp only
      split <;> rfl

theorem State.owesRelease_iff {s : State} {new : TableSet} {r : Nat} :
    r < rowCount ∧ s.owesRelease new r = true ↔ s.OwesRelease new r := by
  unfold State.owesRelease State.carriedNotice carryNotice State.OwesRelease
  refine and_congr_right fun _ => ?_
  cases hd : s.activeSet.row r with
  | none => simp
  | some d =>
    cases hq : s.rowRuntime r with
    | none => simp
    | some q =>
      have hcarried : (¬ (new.row r).any d.carriedBy = true) ↔
          ∀ d', new.row r = some d' → ¬ (d.source = d'.source ∧ d.scope = d'.scope ∧ d.action = d'.action) := by
        simp only [Option.any_eq_true, RowEntry.carriedBy_iff, not_exists, not_and]
      simp only [hcarried, Option.isSome_ite, Option.some.injEq]
      constructor
      · rintro ⟨halert, hphase, hnew⟩
        exact ⟨d, q, rfl, rfl, halert, hphase, hnew⟩
      · rintro ⟨_, _, rfl, rfl, halert, hphase, hnew⟩
        exact ⟨halert, hphase, hnew⟩

theorem State.applied_notices {s : State} {new : TableSet} {owed : List Nat} (hascends : owed.Pairwise (· < ·))
    (hmem : ∀ r, r ∈ owed ↔ s.OwesRelease new r) (sweep : SweepNo) :
    (s.applied new sweep).NoticesOf (s.queuing (owed.map fun r => rowNotice r .idle false none sweep)) := by
  have howed : owed = (List.range rowCount).filter (s.owesRelease new) :=
    ascending_eq_filter hascends fun r => (hmem r).trans State.owesRelease_iff.symm
  have hnotices : (List.range rowCount).filterMap (s.carriedNotice new sweep) =
      owed.map fun r => rowNotice r .idle false none sweep := by
    rw [howed, ← filterMap_ite]
    exact List.filterMap_congr fun r _ => s.carriedNotice_eq new sweep r
  unfold State.applied
  rw [hnotices]
  exact State.noticesOf_withNotices _ _

theorem State.NoticesOf.completeHead {s q : State} (h : s.NoticesOf q) (result : ReplyResult) (data : ReplyData) :
    (s.completeHead result data).NoticesOf q := by
  obtain ⟨hnotices, hdropped, hcount⟩ := h
  exact ⟨(s.completeHead_notices result data).trans hnotices, (s.completeHead_noticesDropped result data).trans hdropped,
    (s.completeHead_droppedCount result data).trans hcount⟩

theorem Classified.remark_record (c : Classified) (changed : Nat → Bool) (k : Nat) :
    (c.remark changed).record k = if changed k then none else c.record k :=
  getD_zipIdx_map (fun k r => if changed k then none else r) (fun _ => ite_self none) c.fresh k

/-- Settles O45. -/
theorem waitingActivationIsAppliedDeferredOrAbandoned : Obligations.WaitingActivationIsAppliedDeferredOrAbandoned := by
  unfold Obligations.WaitingActivationIsAppliedDeferredOrAbandoned
  refine fun s sweep => ⟨?_, fun hnone => by rw [activationStage_of_none hnone], fun w b hw hb hcount => ?_,
    fun w b c rest hw hb hcount hqueue => ?_, fun w c rest hw hb hqueue => ?_, fun w hw hb => ?_⟩
  · intro blank latched locked
    have hblank : s.anyBlank = true ↔ blank := s.anyBlank_iff
    have hlatched : s.latchedRows ≠ [] ↔ latched := s.latchedRows_ne_nil_iff
    have hlocked : s.lockedLanes ≠ [] ↔ locked := s.lockedLanes_ne_nil_iff
    unfold State.blocking
    rw [← hblank, ← hlatched, ← hlocked]
    by_cases h1 : s.anyBlank = true
    · simp [h1]
    · by_cases h2 : s.latchedRows ≠ []
      · simp [h1, h2]
      · by_cases h3 : s.lockedLanes ≠ [] <;> simp [h1, h2, h3]
  · rw [activationStage_of_blocked hw hb]
    exact if_neg (Nat.not_le.mpr hcount)
  · have habandon : s.deferActivation w b = s.abandonActivation b := if_pos hcount.ge
    rw [activationStage_of_blocked hw hb, habandon]
    exact State.completeHead_of_cons (s := { s with waiting := none }) hqueue _ _
  · have hqueue' : (s.applied w.tables sweep).commands = c :: rest := hqueue
    rw [activationStage_of_free hw hb, State.applyActivation_eq, State.completeHead_of_cons hqueue']
    exact ⟨rfl, rfl, rfl, rfl, rfl, rfl, rfl, rfl⟩
  · intro t old new
    have ht : t = (s.applied new sweep).completeHead .done (.activated sweep w.deferrals) := by
      rw [← State.applyActivation_eq]
      exact congrArg Prod.fst (activationStage_of_free hw hb sweep)
    have hpoint : t.pointRecord = (s.applied new sweep).pointRecord := by
      unfold State.pointRecord
      rw [ht, State.completeHead_pointRecords]
    have hrow : t.rowRuntime = (s.applied new sweep).rowRuntime := by
      unfold State.rowRuntime
      rw [ht, State.completeHead_rowRuntimes]
    have hzone : t.zone = (s.applied new sweep).zone := by
      unfold State.zone
      rw [ht, State.completeHead_zones]
    rw [hpoint, hrow, hzone]
    refine ⟨fun i hi => State.applied_pointRecord hi new sweep, fun r hr => ?_, fun owed hascends hmem => ?_,
      fun z hz => ?_, fun c k => ?_⟩
    · rw [State.applied_rowRuntime hr]
      refine ⟨fun hnone => by rw [hnone, carryRow_of_dropped], fun d d' q hd hd' hq hsource hscope haction => ?_,
        fun d' hd' hnot => ?_⟩
      · have hcarried : d.carriedBy d' = true := (d.carriedBy_iff d').mpr ⟨hsource, hscope, haction⟩
        have hold : s.activeSet.row r = some d := hd
        rw [hold, hd', hq, carryRow_of_carried hcarried]
        simp only [carriedCeiling, q.effective_iff] <;> rfl
      · rw [hd']
        exact carryRow_of_new (fun d hd => mt (d.carriedBy_iff d').mp (hnot d hd)) _
    · rw [ht]
      exact (State.applied_notices hascends hmem sweep).completeHead _ _
    · rw [State.applied_zone hz]
      exact ⟨fun h => carryZone_of_changed h _, fun h => carryZone_of_same h _⟩
    · rw [activationStage_of_free hw hb, Classified.remark_record]
      by_cases hsame : old.head k = new.head k
      · rw [if_pos hsame, if_neg (by simpa [headChanged] using hsame)]
      · rw [if_neg hsame, if_pos (by simpa [headChanged] using hsame)]

/-! ### The abandonment as an event (R158, R168) -/

theorem State.abandonIfDue_of_due {s : State} {w : WaitingActivation} {b : Blocking} (hw : s.waiting = some w)
    (hb : s.blocking = some b) (hdue : 1024 ≤ w.deferrals + 1) : s.abandonIfDue = (s.abandonActivation b).drainCommands := by
  unfold State.abandonIfDue
  rw [hw, hb]
  exact if_pos hdue

theorem State.abandonIfDue_of_idle {s : State}
    (h : s.waiting = none ∨ s.blocking = none ∨ ∃ w, s.waiting = some w ∧ w.deferrals < 1023) : s.abandonIfDue = s := by
  unfold State.abandonIfDue
  split
  · rename_i w b hw hb
    obtain hnone | hnone | ⟨w', hw', hcount⟩ := h
    · exact absurd (hw.symm.trans hnone) nofun
    · exact absurd (hb.symm.trans hnone) nofun
    · obtain rfl := Option.some.inj (hw.symm.trans hw')
      exact if_neg (Nat.not_le.mpr (Nat.succ_lt_succ hcount))
  · rfl

/-- Settles O46. -/
theorem activationIsAbandonedAtTheLimit : Obligations.ActivationIsAbandonedAtTheLimit := by
  unfold Obligations.ActivationIsAbandonedAtTheLimit
  intro s hrun
  have hexec : exec .activationAbandon s = .next s.abandonIfDue :=
    congrArg _ (State.unlessReset_of_running hrun State.abandonIfDue)
  refine ⟨fun w b c rest hw hb hcount hqueue => ?_, fun h => by rw [hexec, State.abandonIfDue_of_idle h]⟩
  intro t
  have ht : s.abandonActivation b = t := State.completeHead_of_cons (s := { s with waiting := none }) hqueue _ _
  have hdue : s.abandonIfDue = t.drainCommands := by
    rw [State.abandonIfDue_of_due hw hb (by rw [hcount]), ht]
  rw [hexec, hdue]
  refine ⟨fun h => congrArg _ ?_, fun _ => rfl, fun d heval hrest hkind => congrArg _ ?_⟩
  · obtain heval | hnone := h
    · have hholds : t.holdsCommands = true := by
        have hevaluating : t.evaluating = true := heval
        rw [State.holdsCommands, hevaluating]
        rfl
      exact State.drainCommands_of_holds hholds
    · exact State.drainCommands_of_none hnone
  · have hhead := State.drainCommands_of_unknown (State.holdsCommands_of_running (s := t) heval rfl hrun) hrest (.inr hkind)
    exact hhead.trans (State.drainCommands_of_none rfl)

/-! ### Snapshots (R176) -/

theorem State.forwardPointOf_of_ratio {s : State} {l i f g : Nat} {e : PointEntry} (hi : s.ratioPointOf l = some i)
    (he : s.activeSet.point i = some e) (hsource : e.source = .ratio f g) : s.forwardPointOf l = some f := by
  obtain ⟨kind, scope, source⟩ := e
  obtain rfl : source = .ratio f g := hsource
  unfold State.forwardPointOf
  rw [hi, Option.bind_some, he]

theorem State.forwardPointOf_of_none {s : State} {l : Nat} (h : s.ratioPointOf l = none) : s.forwardPointOf l = none := by
  unfold State.forwardPointOf
  rw [h]
  rfl

theorem State.snapshotLane_of_lt {s : State} {l : Nat} (h : l < s.siteRecord.lanes) :
    s.snapshotLane l =
      { state := (s.lane l).state, applied := (s.lane l).applied
        forward := (s.forwardPointOf l).map s.measurement, ratio := (s.ratioPointOf l).map s.measurement } := if_pos h

theorem State.snapshotLane_of_le {s : State} {l : Nat} (h : s.siteRecord.lanes ≤ l) :
    s.snapshotLane l = { state := .off, applied := 0, forward := none, ratio := none } := if_neg (Nat.not_lt.mpr h)

theorem State.buildSnapshot_is (s : State) (sweep : SweepNo) :
    ∃ p, s.buildSnapshot sweep = { s with snapshot := some p, snapshotCount := 0 } ∧ s.SnapshotIs sweep p := by
  refine ⟨{ sweep, lanes := (List.range laneCount).map s.snapshotLane }, rfl, rfl, by simp [laneCount], fun l x hx => ?_⟩
  rw [List.getElem?_map, Option.map_eq_some_iff] at hx
  obtain ⟨k, hk, rfl⟩ := hx
  obtain ⟨_, rfl⟩ := List.getElem?_eq_some_iff.mp hk
  rw [List.getElem_range]
  refine ⟨fun hlt => ?_, fun hle => ?_⟩
  · rw [State.snapshotLane_of_lt hlt]
    refine ⟨rfl, rfl, rfl, fun i e f g hi he hsource => ?_, fun hnone => ?_⟩
    · rw [State.forwardPointOf_of_ratio hi he hsource]
      rfl
    · rw [State.forwardPointOf_of_none hnone]
      rfl
  · rw [State.snapshotLane_of_le hle]
    exact ⟨rfl, rfl, rfl, rfl⟩

/-- Settles O47. -/
theorem dueSnapshotIsBuilt : Obligations.DueSnapshotIsBuilt := by
  unfold Obligations.DueSnapshotIsBuilt
  intro s interval
  refine ⟨fun sweep => ⟨fun hzero => if_pos hzero, fun hpos hdue => ?_, fun hlow => ?_⟩,
    fun hrun => ⟨fun hpos hdue => ?_, fun hidle => ?_⟩⟩
  · obtain ⟨p, hp, his⟩ := s.buildSnapshot_is sweep
    exact ⟨p, ((if_neg hpos.ne').trans (if_pos hdue)).trans hp, his⟩
  · exact (if_neg (by omega : ¬ interval = 0)).trans (if_neg (Nat.not_le.mpr hlow))
  · obtain ⟨p, hp, his⟩ := s.buildSnapshot_is s.lastEvaluation
    exact ⟨p, congrArg _ ((State.unlessReset_of_running hrun State.snapshotIfDue).trans
      ((if_pos ⟨hpos, hdue⟩).trans hp)), his⟩
  · refine congrArg _ ((State.unlessReset_of_running hrun State.snapshotIfDue).trans (if_neg ?_))
    rintro ⟨hpos, hdue⟩
    obtain hzero | hlow := hidle
    · exact hpos.ne' hzero
    · exact Nat.not_le.mpr hlow hdue

end Sys2Proof.Machine

/-! PROOFS. Lane handling, steps 1 and 2: ceilings (R83, R84), probes (R105, R106) and settled states (R100 to R107). -/

namespace Sys2Proof.Machine

/-! ### The judgement of a probe (R105, R106) -/

/-- Lane `l`'s probe passes by the ratio point that its plan names. -/
def State.ProbePasses (s : State) (ratioPoint : Option Nat) : Prop :=
  ∀ i, ratioPoint = some i →
    (s.pointOrNone i).state = .valid ∧
      ∃ n, (s.pointOrNone i).value = some n ∧ n ≤ s.activeSet.parameters.probeRatioLimit

theorem State.situation_passed_iff (s : State) (l : Nat) :
    (s.situation l).passed = true ↔ s.ProbePasses ((s.activeSet.plan l).bind (·.ratioPoint)) := by
  have hpassed : (s.situation l).passed = probePasses s.activeSet.parameters.probeRatioLimit
      (((s.activeSet.plan l).bind (·.ratioPoint)).map s.pointOrNone) := rfl
  rw [hpassed, State.ProbePasses]
  cases (s.activeSet.plan l).bind (·.ratioPoint) with
  | none => simp [probePasses]
  | some i => simp [probePasses, Option.any_eq_true]

section Judge

variable {v : Lane} {rules : ProbeRules} {passed : Bool}

theorem Lane.judgeProbe_of_pass (h : passed = true) :
    v.judgeProbe rules passed = { v with state := .ramp, probeRemaining := 0, retriesUsed := 0 } := if_pos h

theorem Lane.judgeProbe_of_retry (h : passed = false) (hretry : v.retriesUsed + 1 ≤ rules.retries) :
    v.judgeProbe rules passed = { v with probeRemaining := rules.length, retriesUsed := v.retriesUsed + 1 } :=
  (if_neg (by simp [h])).trans (if_pos hretry)

theorem Lane.judgeProbe_of_lockout (h : passed = false) (hretry : rules.retries < v.retriesUsed + 1) :
    v.judgeProbe rules passed = { v with
      state := .lockout, lockoutCause := .probe, probeRemaining := 0, retriesUsed := v.retriesUsed + 1
      probeOwed := false } :=
  (if_neg (by simp [h])).trans (if_neg (Nat.not_le.mpr hretry))

/-- A lane as the event that judges its probe leaves it: one that it locks out is silent at once. -/
def Lane.judgedNow (v : Lane) (rules : ProbeRules) (passed : Bool) : Lane :=
  if (v.judgeProbe rules passed).state = .lockout then { v.judgeProbe rules passed with target := 0, applied := 0 }
  else v.judgeProbe rules passed

theorem Lane.judgedNow_of_pass (h : passed = true) :
    v.judgedNow rules passed = { v with state := .ramp, probeRemaining := 0, retriesUsed := 0 } := by
  rw [Lane.judgedNow, Lane.judgeProbe_of_pass h]
  rfl

theorem Lane.judgedNow_of_retry (hprobe : v.state = .probe) (h : passed = false)
    (hretry : v.retriesUsed + 1 ≤ rules.retries) :
    v.judgedNow rules passed = { v with probeRemaining := rules.length, retriesUsed := v.retriesUsed + 1 } := by
  rw [Lane.judgedNow, Lane.judgeProbe_of_retry h hretry]
  have hother : v.state ≠ .lockout := by simp [hprobe]
  exact if_neg hother

theorem Lane.judgedNow_of_lockout (h : passed = false) (hretry : rules.retries < v.retriesUsed + 1) :
    v.judgedNow rules passed = { v with
      state := .lockout, lockoutCause := .probe, probeRemaining := 0, retriesUsed := v.retriesUsed + 1
      probeOwed := false, target := 0, applied := 0 } := by
  rw [Lane.judgedNow, Lane.judgeProbe_of_lockout h hretry]
  rfl

end Judge

theorem State.judgeProbeIfDue_of_due {s : State} {l : Nat} (hl : l < s.siteRecord.lanes) (hprobe : (s.lane l).state = .probe)
    (hdue : (s.lane l).probeRemaining = 1) :
    s.judgeProbeIfDue l = s.changeLane l ((s.lane l).judgedNow s.probeRules (s.situation l).passed) :=
  if_pos ⟨hl, hprobe, hdue.le⟩

theorem State.judgeProbeIfDue_of_idle {s : State} {l : Nat}
    (h : (s.lane l).state ≠ .probe ∨ 2 ≤ (s.lane l).probeRemaining) : s.judgeProbeIfDue l = s := by
  refine if_neg ?_
  rintro ⟨_, hprobe, hdue⟩
  exact h.elim (fun h => h hprobe) fun h => Nat.not_le.mpr h hdue

theorem State.changeLane_oneLane (s : State) (l : Nat) (v : Lane) :
    s.OneLane (s.changeLane l v) l (v.arriving (s.lane l).state s.lastEvaluation) := by
  refine ⟨s.changeLane_lanes l v, ?_⟩
  rw [Lane.arriving_applied]
  exact s.changeLane_multipliers l v

theorem State.changeLane_self_frame (s : State) (l : Nat) (v : Lane) :
    s.changeLane l v = { s with
      lanes := (s.changeLane l v).lanes, multipliers := (s.changeLane l v).multipliers
      notices := (s.changeLane l v).notices, noticesDropped := (s.changeLane l v).noticesDropped
      droppedCount := (s.changeLane l v).droppedCount } := by
  rw [State.changeLane_lanes, State.changeLane_multipliers]
  exact s.changeLane_frame l v

theorem State.changeLane_noticesOf_unnoticed {s : State} {l : Nat} {v : Lane}
    (h : laneChangeNotice l (s.lane l).state (v.arriving (s.lane l).state s.lastEvaluation) = none) :
    (s.changeLane l v).NoticesOf s := by
  have hnotices := s.changeLane_noticesOf l v
  rw [h] at hnotices
  exact hnotices

/-- Settles O41: the three outcomes of a probe's judgement. -/
theorem probeIsJudgedAtItsLastEvaluation : Obligations.ProbeIsJudgedAtItsLastEvaluation := by
  unfold Obligations.ProbeIsJudgedAtItsLastEvaluation
  intro s lane hrun _ hlane l v q passed
  have hexec : exec (.probeJudgement lane) s = .next (s.judgeProbeIfDue l) :=
    congrArg _ (State.unlessReset_of_running hrun fun s => s.judgeProbeIfDue l)
  rw [hexec]
  refine ⟨fun hprobe hdue => ?_, fun hidle => by rw [State.judgeProbeIfDue_of_idle hidle]⟩
  have hpassed : (s.situation l).passed = true ↔ passed := s.situation_passed_iff l
  have hfailed (h : ¬ passed) : (s.situation l).passed = false := Bool.eq_false_iff.mpr (mt hpassed.mp h)
  have hold : (s.lane l).state = .probe := hprobe
  rw [State.judgeProbeIfDue_of_due hlane hprobe hdue]
  have hone := s.changeLane_oneLane l (v.judgedNow s.probeRules (s.situation l).passed)
  have hnotices := s.changeLane_noticesOf l (v.judgedNow s.probeRules (s.situation l).passed)
  rw [hold] at hone hnotices
  refine ⟨_, _, rfl, hone, s.changeLane_self_frame l _, fun h => ?_, fun h => ?_, fun h hretry => ?_, fun h hretry => ?_,
    fun h hretry => ?_⟩
  · rw [Lane.judgedNow_of_pass (hpassed.mpr h)]
    rfl
  · refine State.changeLane_noticesOf_unnoticed ?_
    rw [hold]
    by_cases hp : passed
    · rw [Lane.judgedNow_of_pass (hpassed.mpr hp)]
      rfl
    · rw [Lane.judgedNow_of_retry hprobe (hfailed hp) (h.resolve_left hp)]
      refine laneChangeNotice_of_same ?_ l
      rw [Lane.arriving_state]
      exact hprobe.symm
  · rw [Lane.judgedNow_of_lockout (hfailed h) hretry] at hnotices ⊢
    exact hnotices
  · rw [Lane.judgedNow_of_retry hprobe (hfailed h) hretry]
    refine Lane.arriving_of_same ?_ _
    exact hprobe.symm
  · rw [Lane.judgedNow_of_lockout (hfailed h) hretry]
    rfl

/-! ### Step 1: ceilings (R83, R84) -/

theorem covers_iff (t : TableSet) (lanes : Nat) (scope : Scope) (l : Nat) :
    covers t lanes scope l = true ↔ scope.CoversLane t lanes l := by
  unfold Scope.CoversLane
  cases scope with
  | lane l' => simp [covers, eq_comm (a := l)]
  | zone z => simp [covers, TableSet.isMember]
  | site => simp [covers]

theorem State.rowCeiling_eq_some {s : State} {l r c : Nat} : s.rowCeiling l r = some c ↔ s.CapsLane r l c := by
  unfold State.rowCeiling State.CapsLane
  rw [Option.ite_none_right_eq_some, State.effectiveRow_iff]
  simp only [Bool.and_eq_true, beq_iff_eq, covers_iff, RowRuntime.effective_iff]
  constructor
  · rintro ⟨⟨d, q, hd, hq, heffective, hceiling, hcovers⟩, hforce⟩
    rw [hq] at hforce
    exact ⟨d, q, hd, hq, heffective, hceiling, hcovers, hforce⟩
  · rintro ⟨d, q, hd, hq, heffective, hceiling, hcovers, hforce⟩
    rw [hq]
    exact ⟨⟨d, q, hd, rfl, heffective, hceiling, hcovers⟩, hforce⟩

theorem State.headServes_iff (s : State) (h l : Nat) : s.headServes h l = true ↔ s.Serves h l := by
  unfold State.headServes State.Serves
  rw [List.any_eq_true]
  constructor
  · rintro ⟨i, hi, hserves⟩
    split at hserves
    · rename_i kind scope position input fold gain offset hpoint
      obtain ⟨hposition, hcovers⟩ := (Bool.and_eq_true ..).mp hserves
      obtain rfl := eq_of_beq hposition
      exact ⟨i, _, input, fold, gain, offset, List.mem_range.mp hi, hpoint, rfl, (covers_iff ..).mp hcovers⟩
    · exact absurd hserves Bool.false_ne_true
  · rintro ⟨i, ⟨kind, scope, source⟩, input, fold, gain, offset, hi, hpoint, hsource, hcovers⟩
    obtain rfl : source = .head h input fold gain offset := hsource
    refine ⟨i, List.mem_range.mpr hi, ?_⟩
    rw [hpoint]
    exact (Bool.and_eq_true ..).mpr ⟨beq_self_eq_true h, (covers_iff ..).mpr hcovers⟩

theorem State.blindCapped_iff (s : State) (l : Nat) :
    s.blindCapped l = true ↔
      s.senseBlind = true ∨ ∃ h, h < headCount ∧ s.isHeadLost h = true ∧ s.Serves h l := by
  unfold State.blindCapped
  simp only [Bool.or_eq_true, List.any_eq_true, List.mem_range, Bool.and_eq_true, State.headServes_iff]

theorem mem_ceilingComponents {s : State} {l c : Nat} :
    c ∈ s.ceilingComponents l ↔ c = (s.lane l).setpoint ∨ c = s.modeCeiling l ∨
      (∃ r, r < rowCount ∧ s.CapsLane r l c) ∨
      ((s.senseBlind = true ∨ ∃ h, h < headCount ∧ s.isHeadLost h = true ∧ s.Serves h l) ∧
        c = s.activeSet.parameters.blindCeiling) := by
  have hblind : c ∈ (if s.blindCapped l then [s.activeSet.parameters.blindCeiling] else []) ↔
      s.blindCapped l = true ∧ c = s.activeSet.parameters.blindCeiling := by
    split <;> simp [*]
  unfold State.ceilingComponents State.rowCeilings
  rw [List.mem_append, List.mem_append, hblind, List.mem_filterMap, ← State.blindCapped_iff]
  simp only [List.mem_cons, List.not_mem_nil, or_false, List.mem_range, State.rowCeiling_eq_some, or_assoc]

theorem foldl_min_le (cs : List Nat) (n : Nat) : cs.foldl min n ≤ n ∧ ∀ c ∈ cs, cs.foldl min n ≤ c := by
  induction cs generalizing n with
  | nil => exact ⟨le_rfl, nofun⟩
  | cons c cs ih =>
    obtain ⟨hstart, hrest⟩ := ih (min n c)
    exact ⟨hstart.trans (Nat.min_le_left n c),
      List.forall_mem_cons.mpr ⟨hstart.trans (Nat.min_le_right n c), hrest⟩⟩

theorem foldl_min_mem (cs : List Nat) (n : Nat) : cs.foldl min n = n ∨ cs.foldl min n ∈ cs := by
  induction cs generalizing n with
  | nil => exact .inl rfl
  | cons c cs ih =>
    obtain heq | hmem := ih (min n c)
    · have hfold : (c :: cs).foldl min n = min n c := heq
      rw [hfold]
      obtain hn | hc := Nat.le_total n c
      · exact .inl (Nat.min_eq_left hn)
      · exact .inr (by rw [Nat.min_eq_right hc]; exact List.mem_cons_self)
    · exact .inr (List.mem_cons_of_mem c hmem)

/-- The mode ceiling, by cases (R83). -/
theorem State.modeCeiling_cases (s : State) (l : Nat) :
    s.modeCeiling l = 1250 ∨
    ((s.lane l).mode = .reduced ∧ ∃ p, s.activeSet.plan l = some p ∧ s.modeCeiling l = p.reducedLevel) ∨
    ((s.lane l).mode = .reduced ∧ s.activeSet.plan l = none ∧ 100 ≤ s.modeCeiling l ∧ s.modeCeiling l ≤ 1000) := by
  unfold State.modeCeiling State.reducedLevel
  cases (s.lane l).mode with
  | full => exact .inl rfl
  | reduced =>
    cases s.activeSet.plan l with
    | some p => exact .inr (.inl ⟨rfl, p, rfl, rfl⟩)
    | none => exact .inr (.inr ⟨rfl, rfl, by dsimp only; omega, by dsimp only; omega⟩)

theorem State.modeCeiling_of_plan {s : State} {l : Nat} {p : LanePlan} (hmode : (s.lane l).mode = .reduced)
    (hplan : s.activeSet.plan l = some p) : s.modeCeiling l = p.reducedLevel := by
  unfold State.modeCeiling State.reducedLevel
  rw [hmode, hplan]

/-- Settles O44: the ceiling is the least of its components and 1250. -/
theorem ceilingIsTheLeastComponent : Obligations.CeilingIsTheLeastComponent := by
  unfold Obligations.CeilingIsTheLeastComponent
  intro s l ceiling v blind
  obtain ⟨hbound, hleast⟩ := foldl_min_le (s.ceilingComponents l) 1250
  have hcap (c : Nat) (h : c ∈ s.ceilingComponents l) : ceiling ≤ c := hleast c h
  refine ⟨rfl, hbound, hcap _ (mem_ceilingComponents.mpr (.inl rfl)), fun p hmode hplan => ?_, fun r c hr hcaps => ?_,
    fun h => hcap _ (mem_ceilingComponents.mpr (.inr (.inr (.inr ⟨h, rfl⟩)))), ?_⟩
  · rw [← State.modeCeiling_of_plan hmode hplan]
    exact hcap _ (mem_ceilingComponents.mpr (.inr (.inl rfl)))
  · exact hcap c (mem_ceilingComponents.mpr (.inr (.inr (.inl ⟨r, hr, hcaps⟩))))
  · obtain hfull | hmem := foldl_min_mem (s.ceilingComponents l) 1250
    · exact .inl hfull
    have hceiling : ceiling ∈ s.ceilingComponents l := hmem
    obtain hset | hmode | hrow | hblind := mem_ceilingComponents.mp hceiling
    · exact .inr (.inl hset)
    · obtain hfull | ⟨hreduced, p, hplan, hlevel⟩ | ⟨hreduced, hplan, hleast, hgreatest⟩ := s.modeCeiling_cases l
      · exact .inl (hmode.trans hfull)
      · exact .inr (.inr (.inl ⟨hreduced, p, hplan, hmode.trans hlevel⟩))
      · rw [← hmode] at hleast hgreatest
        exact .inr (.inr (.inr (.inl ⟨hreduced, hplan, hleast, hgreatest⟩)))
    · exact .inr (.inr (.inr (.inr (.inl hrow))))
    · exact .inr (.inr (.inr (.inr (.inr hblind))))

end Sys2Proof.Machine

/-! PROOFS. Lane handling, step 2: the situation by which a lane settles, and its settled record (R100 to R107). -/

namespace Sys2Proof.Machine

/-! ### Mute causes (R67, R109) -/

theorem State.rowMutes_iff {s : State} {l r : Nat} :
    s.rowMutes l r = true ↔ ∃ d q, s.activeSet.row r = some d ∧ s.rowRuntime r = some q ∧ q.effective = true ∧
      d.action = .mute ∧ d.scope.CoversLane s.activeSet s.siteRecord.lanes l := by
  unfold State.rowMutes
  simp only [State.effectiveRow_iff, Bool.and_eq_true, beq_iff_eq, covers_iff]

theorem State.mutedByRow_iff {s : State} {l r : Nat} (outlast : Latch) :
    s.MutedByRow l r outlast ↔ r < rowCount ∧ s.rowMutes l r = true ∧
      s.effectiveRow (fun d => d.latch == outlast) r = true := by
  unfold State.MutedByRow
  refine and_congr_right fun _ => ?_
  simp only [State.rowMutes_iff, State.effectiveRow_iff, beq_iff_eq, ← RowRuntime.effective_iff]
  constructor
  · rintro ⟨d, q, hd, hq, heffective, hmute, hlatch, hcovers⟩
    exact ⟨⟨d, q, hd, hq, heffective, hmute, hcovers⟩, d, q, hd, hq, heffective, hlatch⟩
  · rintro ⟨⟨d, q, hd, hq, heffective, hmute, hcovers⟩, d', q', hd', hq', _, hlatch⟩
    obtain rfl := Option.some.inj (hd.symm.trans hd')
    exact ⟨d, q, hd, hq, heffective, hmute, hlatch, hcovers⟩

theorem State.row_mem_muteCauses {s : State} {l r : Nat} :
    .row r ∈ s.muteCauses l ↔ ∃ outlast, s.MutedByRow l r outlast := by
  have hsystem : MuteCause.row r ∉ s.systemCauses := by
    simp only [State.systemCauses, List.mem_append, not_or]
    refine ⟨⟨?_, ?_⟩, ?_⟩ <;> split <;> simp
  have hrows : MuteCause.row r ∈ s.muteCauses l ↔ r < rowCount ∧ s.rowMutes l r = true := by
    simp [State.muteCauses, hsystem, State.mutingRows]
  rw [hrows]
  constructor
  · rintro ⟨hr, hmutes⟩
    obtain ⟨d, q, hd, hq, heffective, _⟩ := State.rowMutes_iff.mp hmutes
    exact ⟨d.latch, (State.mutedByRow_iff _).mpr
      ⟨hr, hmutes, (s.effectiveRow_iff ..).mpr ⟨d, q, hd, hq, heffective, beq_self_eq_true _⟩⟩⟩
  · rintro ⟨outlast, hmuted⟩
    obtain ⟨hr, hmutes, _⟩ := (State.mutedByRow_iff outlast).mp hmuted
    exact ⟨hr, hmutes⟩

theorem State.mem_muteCauses_of_not_row {s : State} {l : Nat} {m : MuteCause} (h : ∀ r, m ≠ .row r) :
    m ∈ s.muteCauses l ↔ m ∈ s.systemCauses := by
  have hrows : m ∉ (s.mutingRows l).map MuteCause.row := fun hmem =>
    let ⟨r, _, hr⟩ := List.mem_map.mp hmem
    h r hr.symm
  unfold State.muteCauses
  rw [List.mem_append, or_iff_right hrows]

theorem State.inhibit_mem_systemCauses (s : State) : .inhibit ∈ s.systemCauses ↔ s.forceInhibit = true := by
  unfold State.systemCauses
  cases s.forceInhibit <;> cases s.linkLoss <;> cases s.blindMute <;> decide

theorem State.linkLoss_mem_systemCauses (s : State) : .linkLoss ∈ s.systemCauses ↔ s.link ≠ .locked := by
  have hloss : s.linkLoss = true ↔ s.link ≠ .locked := by simp [State.linkLoss]
  rw [← hloss]
  unfold State.systemCauses
  cases s.forceInhibit <;> cases s.linkLoss <;> cases s.blindMute <;> decide

theorem State.blindMute_mem_systemCauses (s : State) : .blindMute ∈ s.systemCauses ↔ s.blindMute = true := by
  unfold State.systemCauses
  cases s.forceInhibit <;> cases s.linkLoss <;> cases s.blindMute <;> decide

theorem State.latchedMute_iff (s : State) (l : Nat) : s.latchedMute l = true ↔ ∃ r, s.MutedByRow l r .latch := by
  unfold State.latchedMute
  simp only [List.any_eq_true, List.mem_range, Bool.and_eq_true, State.mutedByRow_iff]

/-! ### The rest of the situation (R100, R102) -/

theorem State.zoneIs_iff (s : State) (l : Nat) (st : ZoneState) :
    s.zoneIs l (· == st) = true ↔ ∃ z, s.activeSet.zoneOf l = some z ∧ (s.zone z).state = st := by
  unfold State.zoneIs
  cases s.activeSet.zoneOf l <;> simp

theorem State.lanePolicy_always_iff {s : State} {l : Nat} {p : LanePlan} (h : s.activeSet.plan l = some p) :
    s.lanePolicy l = .always ↔
      p.probePolicy = .always ∨ (p.probePolicy = .followStrap ∧ s.probePolHigh = false) := by
  unfold State.lanePolicy
  rw [h]
  dsimp only [Option.map_some, Option.getD_some]
  cases p.probePolicy <;> cases s.probePolHigh <;> simp [policyInForce]

theorem State.probesAtMuteExit_iff {s : State} {l : Nat} {p : LanePlan} (h : s.activeSet.plan l = some p) :
    s.probesAtMuteExit l = true ↔
      p.probePolicy = .always ∨ (p.probePolicy = .followStrap ∧ s.probePolHigh = false) ∨
        (s.lane l).muteInvolvedLatch = true := by
  unfold State.probesAtMuteExit
  rw [Bool.or_eq_true, beq_iff_eq, State.lanePolicy_always_iff h, or_assoc]

/-- Of a lane's own record, its situation reads mute-involved-latch alone. -/
theorem State.situation_of_frame {s t : State} {lanes : List Lane} {evaluation : Option EvalProgress}
    (hframe : t = { s with lanes := lanes, evaluation := evaluation }) {l : Nat}
    (hlatch : (t.lane l).muteInvolvedLatch = (s.lane l).muteInvolvedLatch) : t.situation l = s.situation l := by
  have hexit : t.probesAtMuteExit l = s.probesAtMuteExit l := by
    unfold State.probesAtMuteExit
    rw [hlatch, hframe]
    rfl
  have hrest : t.situation l = { s.situation l with policyProbes := t.probesAtMuteExit l } := by
    rw [hframe]
    rfl
  rw [hrest, hexit]
  rfl

/-! ### The stage (R82) -/

theorem State.judgedState_eq (s : State) (l : Nat) :
    s.judgedState l = match s.evaluation with
      | some e => (e.movedFrom.getD l none).getD (s.lane l).state
      | none => (s.lane l).state := by
  unfold State.judgedState
  cases s.evaluation <;> rfl

/-- What step 2 makes of lane `l`. -/
def State.settles (s : State) (l : Nat) : Lane × Settled :=
  { s.lane l with state := s.judgedState l }.settle (s.situation l)

theorem settleLane_undisturbed (s : State) (settled : List Settled) (l : Nat) :
    settleLane undisturbed (s, settled) l =
      ((s.beginSettled l).setLane l (s.settles l).1, settled ++ [(s.settles l).2]) := rfl

theorem State.lane_setLane_beginSettled (s : State) {l : Nat} (hl : l < s.lanes.length) (v : Lane) :
    ((s.beginSettled l).setLane l v).lane l = v :=
  State.lane_of_set (s := s) rfl hl

theorem State.lane_setLane_beginSettled_ne (s : State) {l k : Nat} (hk : k ≠ l) (v : Lane) :
    ((s.beginSettled l).setLane l v).lane k = s.lane k :=
  State.lane_of_set_ne (s := s) rfl hk.symm

theorem State.judgedState_setLane_beginSettled_ne (s : State) {l k : Nat} (hk : k ≠ l) (v : Lane) :
    ((s.beginSettled l).setLane l v).judgedState k = s.judgedState k := by
  have hlane := s.lane_setLane_beginSettled_ne hk v
  unfold State.judgedState
  rw [hlane, State.setLane_evaluation, State.beginSettled]
  cases s.evaluation with
  | none => rfl
  | some e =>
    dsimp only [Option.map_some, Option.bind_some]
    rw [getD_set, if_neg fun h => hk h.1.symm]

/-- The ceiling of a lane that no earlier step has composed is as it was at the start. -/
theorem State.composedCeiling_of_frame {s t : State} {lanes : List Lane} (hframe : t = { s with lanes := lanes }) {l : Nat}
    (hlane : t.lane l = s.lane l) : t.composedCeiling l = s.composedCeiling l := by
  have hmode : t.modeCeiling l = s.modeCeiling l := by
    unfold State.modeCeiling
    rw [hlane, hframe]
    rfl
  unfold State.composedCeiling State.ceilingComponents
  rw [hmode, hlane, hframe]
  rfl

/-- `t` is `s` after step 1 on the lanes below `n`. -/
structure State.ComposedBelow (s : State) (n : Nat) (t : State) : Prop where
  frame : ∃ lanes, t = { s with lanes := lanes }
  length : t.lanes.length = s.lanes.length
  above : ∀ k, n ≤ k → t.lane k = s.lane k
  below : ∀ k, k < n → k < s.lanes.length → t.lane k = { s.lane k with ceiling := s.composedCeiling k }

theorem State.composedBelow (s : State) (n : Nat) :
    s.ComposedBelow n ((List.range n).foldl (fun u l => composeLane l u) s) := by
  refine foldl_range (P := s.ComposedBelow) n ⟨⟨s.lanes, rfl⟩, rfl, fun _ _ => rfl, nofun⟩
    fun n t _ ⟨⟨lanes, hframe⟩, hlength, habove, hbelow⟩ => ?_
  have hcomposed : composeLane n t = t.setLane n { s.lane n with ceiling := s.composedCeiling n } := by
    unfold composeLane
    rw [State.composedCeiling_of_frame hframe (habove n le_rfl), habove n le_rfl]
  have hother {k : Nat} (hk : n ≠ k) : (composeLane n t).lane k = t.lane k :=
    State.lane_of_set_ne (s := t) rfl hk
  refine ⟨⟨_, by rw [hcomposed, hframe]; rfl⟩, (List.length_set ..).trans hlength, fun k hk => ?_, fun k hk hlt => ?_⟩
  · exact (hother (by omega)).trans (habove k (by omega))
  · obtain rfl | hne := eq_or_ne n k
    · rw [hcomposed]
      exact State.lane_of_set rfl (by rw [hlength]; exact hlt)
    · exact (hother hne).trans (hbelow k (by omega) hlt)

/-- `p` is `s` after step 2 on the lanes below `n`, with the settled states found. -/
structure State.SettledBelow (s : State) (n : Nat) (p : State × List Settled) : Prop where
  frame : ∃ lanes evaluation, p.1 = { s with lanes := lanes, evaluation := evaluation }
  length : p.1.lanes.length = s.lanes.length
  found : p.2.length = n
  above : ∀ k, n ≤ k → p.1.lane k = s.lane k ∧ p.1.judgedState k = s.judgedState k
  below : ∀ k, k < n → k < s.lanes.length → p.1.lane k = (s.settles k).1 ∧ p.2.getD k .silent = (s.settles k).2

theorem State.settledBelow (s : State) (n : Nat) :
    s.SettledBelow n ((List.range n).foldl (settleLane undisturbed) (s, [])) := by
  refine foldl_range (P := s.SettledBelow) n ⟨⟨_, _, rfl⟩, rfl, rfl, fun _ _ => ⟨rfl, rfl⟩, nofun⟩
    fun n ⟨t, settled⟩ _ ⟨⟨lanes, evaluation, hframe⟩, hlength, hfound, habove, hbelow⟩ => ?_
  obtain ⟨hlane, hjudged⟩ := habove n le_rfl
  have hsettles : t.settles n = s.settles n := by
    unfold State.settles
    rw [hlane, hjudged, State.situation_of_frame hframe (congrArg Lane.muteInvolvedLatch hlane)]
  rw [settleLane_undisturbed, hsettles]
  refine ⟨⟨lanes.set n (s.settles n).1, (t.beginSettled n).evaluation, ?_⟩, (List.length_set ..).trans hlength,
    ?_, fun k hk => ⟨?_, ?_⟩, fun k hk hlt => ?_⟩
  · dsimp only at hframe
    rw [hframe]
    rfl
  · rw [List.length_append, hfound]
    rfl
  · exact (t.lane_setLane_beginSettled_ne (by omega) _).trans (habove k (by omega)).1
  · exact (t.judgedState_setLane_beginSettled_ne (by omega) _).trans (habove k (by omega)).2
  · obtain rfl | hne := eq_or_ne n k
    · refine ⟨t.lane_setLane_beginSettled (by rw [hlength]; exact hlt) _, ?_⟩
      dsimp only at hfound
      simp [List.getD_eq_getElem?_getD, hfound]
    · obtain ⟨hwas, hstate⟩ := hbelow k (by omega) hlt
      refine ⟨(t.lane_setLane_beginSettled_ne hne.symm _).trans hwas, ?_⟩
      dsimp only at hfound hstate
      rw [← hstate]
      exact List.getD_append _ _ _ _ (by omega)

/-- The two steps on one lane below L. -/
theorem settleStage_lane {s : State} {l : Nat} (hl : l < s.siteRecord.lanes) (hlane : l < s.lanes.length) :
    (settleStage s).1.lane l =
      ({ s.lane l with ceiling := s.composedCeiling l, state := s.judgedState l }.settle (s.situation l)).1 ∧
    (settleStage s).2.getD l .silent =
      ({ s.lane l with ceiling := s.composedCeiling l, state := s.judgedState l }.settle (s.situation l)).2 := by
  have hcomposed := s.composedBelow s.siteRecord.lanes
  generalize hc : (List.range s.siteRecord.lanes).foldl (fun u l => composeLane l u) s = c at hcomposed
  have hsettled := c.settledBelow s.siteRecord.lanes
  have hstage : settleStage s = (List.range s.siteRecord.lanes).foldl (settleLane undisturbed) (c, []) := by
    rw [← hc]
    rfl
  obtain ⟨lanes, hframe⟩ := hcomposed.frame
  have hbelow := hcomposed.below l hl hlane
  have hjudged : c.judgedState l = s.judgedState l := by
    unfold State.judgedState
    rw [hbelow, hframe]
  have hsituation : c.situation l = s.situation l :=
    State.situation_of_frame (evaluation := s.evaluation) hframe (by rw [hbelow])
  have hsettles : c.settles l =
      { s.lane l with ceiling := s.composedCeiling l, state := s.judgedState l }.settle (s.situation l) := by
    unfold State.settles
    rw [hbelow, hjudged, hsituation]
  rw [hstage, ← hsettles]
  exact hsettled.below l hl (by rw [hcomposed.length]; exact hlane)

theorem settleStage_lane_beyond {s : State} {l : Nat} (hl : s.siteRecord.lanes ≤ l) :
    (settleStage s).1.lane l = s.lane l :=
  ((State.settledBelow _ s.siteRecord.lanes).above l hl).1.trans ((s.composedBelow s.siteRecord.lanes).above l hl)

/-! ### One lane's settled record (R100) -/

theorem Lane.abandonProbe_eq (v : Lane) : v.abandonProbe = { v with
    probeOwed := v.probeOwed || v.state == .probe
    probeRemaining := if v.state = .probe then 0 else v.probeRemaining } := by
  unfold Lane.abandonProbe
  by_cases hprobe : v.state = .probe
  · simp [hprobe]
  · have hne : (v.state == .probe) = false := beq_eq_false_iff_ne.mpr hprobe
    simp [hprobe, hne]

theorem Lane.leaveMuted_eq (v : Lane) : v.leaveMuted = { v with
    muteInvolvedLatch := if v.state = .muted then false else v.muteInvolvedLatch } := by
  unfold Lane.leaveMuted
  split <;> rfl

section Settle

variable {v : Lane} {x : Situation}

theorem Lane.settle_of_zoneLockout (h : x.zoneLockout = true) :
    v.settle x = ({ v.leaveMuted with
      state := .lockout, lockoutCause := .arc, probeRemaining := 0, probeOwed := false }, .silent) := if_pos h

theorem Lane.settle_of_probeLockout (hz : x.zoneLockout = false) (hon : v.onRequest = true)
    (hlock : v.state = .lockout) (hcause : v.lockoutCause = .probe) : v.settle x = (v, .silent) := by
  simp [Lane.settle, hz, hon, hlock, hcause]

/-- The later lines of the list, for a lane that none of the first three settles. -/
theorem Lane.settle_of_requested (hz : x.zoneLockout = false) (hon : v.onRequest = true)
    (hlock : v.state ≠ .lockout ∨ v.lockoutCause ≠ .probe) :
    v.settle x =
      if x.muted then
        ({ v.abandonProbe with state := .muted, muteInvolvedLatch := v.muteInvolvedLatch || x.latchedMute }, .silent)
      else if x.zoneBlank then
        ({ v.abandonProbe.leaveMuted with
            state := .blank
            probeOwed := v.abandonProbe.probeOwed || (v.state == .muted && x.policyProbes) }, .silent)
      else if v.entersProbe x then
        ({ v.leaveMuted with state := .probe, probeRemaining := x.rules.length, probeOwed := false }, .probe true)
      else if v.state = .probe then
        (v.countProbe x.rules x.passed,
          if (v.countProbe x.rules x.passed).state = .probe then .probe false
          else if (v.countProbe x.rules x.passed).state = .ramp then .running false else .silent)
      else ({ v.leaveMuted with state := if v.state = .on then .on else .ramp }, .running v.restriking) := by
  unfold Lane.settle
  rw [if_neg (by simp [hz]), if_neg (by simp [hon]), if_neg fun h => hlock.elim (fun hn => hn h.1) fun hn => hn h.2]

theorem Lane.entersProbe_iff : v.entersProbe x = true ↔
    (v.state = .muted ∧ (x.policyProbes = true ∨ v.probeOwed = true)) ∨ (v.restriking = true ∧ v.probeOwed = true) := by
  simp [Lane.entersProbe]

theorem Lane.countProbe_of_counting (h : 2 ≤ v.probeRemaining) (rules : ProbeRules) (passed : Bool) :
    v.countProbe rules passed = { v with probeRemaining := v.probeRemaining - 1 } := if_pos h

theorem Lane.countProbe_of_last (h : v.probeRemaining = 1) (rules : ProbeRules) (passed : Bool) :
    v.countProbe rules passed = v.judgeProbe rules passed := if_neg (by omega)

end Settle

/-- The probe lines, for a lane in PROBE that does not enter it again (R105, R106). -/
theorem Lane.settle_of_probing {v : Lane} {x : Situation} (hprobe : v.state = .probe)
    (hsettle : v.settle x = (v.countProbe x.rules x.passed,
      if (v.countProbe x.rules x.passed).state = .probe then .probe false
      else if (v.countProbe x.rules x.passed).state = .ramp then .running false else .silent)) :
    (2 ≤ v.probeRemaining → (v.settle x).1 = { v with probeRemaining := v.probeRemaining - 1 } ∧
      (v.settle x).2 = .probe false) ∧
    (v.probeRemaining = 1 →
      (x.passed = true → (v.settle x).1 = { v with state := .ramp, probeRemaining := 0, retriesUsed := 0 } ∧
        (v.settle x).2 = .running false) ∧
      (x.passed = false → v.retriesUsed + 1 ≤ x.rules.retries →
        (v.settle x).1 = { v with probeRemaining := x.rules.length, retriesUsed := v.retriesUsed + 1 } ∧
        (v.settle x).2 = .probe false) ∧
      (x.passed = false → x.rules.retries < v.retriesUsed + 1 →
        (v.settle x).1 = { v with
          state := .lockout, lockoutCause := .probe, probeRemaining := 0, retriesUsed := v.retriesUsed + 1
          probeOwed := false } ∧ (v.settle x).2 = .silent)) := by
  rw [hsettle]
  refine ⟨fun hcount => ?_, fun hlast => ⟨fun hp => ?_, fun hp hretry => ?_, fun hp hretry => ?_⟩⟩
  · rw [Lane.countProbe_of_counting hcount]
    exact ⟨rfl, if_pos hprobe⟩
  · rw [Lane.countProbe_of_last hlast, Lane.judgeProbe_of_pass hp]
    exact ⟨rfl, rfl⟩
  · rw [Lane.countProbe_of_last hlast, Lane.judgeProbe_of_retry hp hretry]
    exact ⟨rfl, if_pos hprobe⟩
  · rw [Lane.countProbe_of_last hlast, Lane.judgeProbe_of_lockout hp hretry]
    exact ⟨rfl, rfl⟩

/-- Settles O40. -/
theorem laneSettlesByPrecedence : Obligations.LaneSettlesByPrecedence := by
  unfold Obligations.LaneSettlesByPrecedence
  refine ⟨fun s l => ?_, fun s settled l hl => ?_, fun s => ?_, fun v x => ?_⟩
  · refine ⟨fun r => State.row_mem_muteCauses, ?_, ?_, ?_, decide_eq_true_iff, s.latchedMute_iff l, rfl, rfl,
      s.zoneIs_iff l .lockout, s.zoneIs_iff l .blank, fun p hp => ⟨State.probesAtMuteExit_iff hp, ?_⟩⟩
    · rw [State.mem_muteCauses_of_not_row (fun _ => by simp), State.inhibit_mem_systemCauses]
    · rw [State.mem_muteCauses_of_not_row (fun _ => by simp), State.linkLoss_mem_systemCauses]
    · rw [State.mem_muteCauses_of_not_row (fun _ => by simp), State.blindMute_mem_systemCauses]
    · have hpassed := s.situation_passed_iff l
      rw [hp] at hpassed
      exact hpassed
  · intro judgedFrom x t
    have hjudged : s.judgedState l = judgedFrom := s.judgedState_eq l
    have hx : s.settles l = x := by
      rw [State.settles, hjudged]
    have ht : t = ((s.beginSettled l).setLane l x.1, settled ++ [x.2]) := by
      rw [← hx]
      rfl
    rw [ht]
    exact ⟨s.lane_setLane_beginSettled hl x.1, rfl, fun k hk => s.lane_setLane_beginSettled_ne hk x.1, rfl⟩
  · refine ⟨rfl, (State.settledBelow _ s.siteRecord.lanes).found, fun l hl => settleStage_lane_beyond hl,
      fun l hl hlane => ?_⟩
    intro judgedFrom x
    have hjudged : s.judgedState l = judgedFrom := s.judgedState_eq l
    have hsettled := settleStage_lane hl hlane
    rw [hjudged] at hsettled
    exact hsettled
  · intro w y latchAfterExit remainingKept
    refine ⟨fun hz => ?_, fun hz hoff => ?_, fun hz hon => ⟨fun hlock hcause => ?_, fun hlock => ?_⟩⟩
    · have hsettle : (w, y) = _ := Lane.settle_of_zoneLockout (v := v) hz
      rw [v.leaveMuted_eq] at hsettle
      obtain ⟨hw, hy⟩ := Prod.mk.inj hsettle
      exact ⟨hy, hw⟩
    · obtain ⟨hw, hy⟩ := Prod.mk.inj (Lane.settle_of_request_clear (v := v) hz hoff : (w, y) = _)
      exact ⟨hy, hw⟩
    · exact Prod.mk.inj (Lane.settle_of_probeLockout (v := v) hz hon hlock hcause : (w, y) = _)
    · have hsettle : (w, y) = _ := Lane.settle_of_requested (v := v) hz hon hlock
      refine ⟨fun hmuted => ?_, fun hmuted => ⟨fun hblank => ?_, fun hblank => ?_⟩⟩
      · rw [if_pos hmuted, v.abandonProbe_eq] at hsettle
        obtain ⟨hw, hy⟩ := Prod.mk.inj hsettle
        exact ⟨hy, hw⟩
      · rw [if_neg (by simp [hmuted]), if_pos hblank, Lane.leaveMuted_eq, v.abandonProbe_eq] at hsettle
        obtain ⟨hw, hy⟩ := Prod.mk.inj hsettle
        exact ⟨hy, hw⟩
      · rw [if_neg (by simp [hmuted]), if_neg (by simp [hblank]), v.leaveMuted_eq] at hsettle
        intro enters
        have henters : v.entersProbe x = true ↔ enters := Lane.entersProbe_iff
        refine ⟨fun hin => ?_, fun hout hprobe => ?_, fun hout hprobe => ?_⟩
        · rw [if_pos (henters.mpr hin)] at hsettle
          obtain ⟨hw, hy⟩ := Prod.mk.inj hsettle
          exact ⟨hy, hw⟩
        · rw [if_neg (mt henters.mp hout), if_pos hprobe] at hsettle
          exact Lane.settle_of_probing hprobe hsettle
        · rw [if_neg (mt henters.mp hout), if_neg hprobe] at hsettle
          obtain ⟨hw, hy⟩ := Prod.mk.inj hsettle
          exact ⟨hy, hw⟩

end Sys2Proof.Machine

/-! PROOFS. Lane handling, steps 3 to 7: one lane's completion (R87 to R92, R98, R108, R116), and the lanes of a site. -/

namespace Sys2Proof.Machine

theorem State.startState_eq (s : State) (l : Nat) :
    s.startState l = match s.evaluation with
      | some e => e.startStates.getD l .off
      | none => (s.lane l).state := by
  unfold State.startState
  cases s.evaluation <;> rfl

theorem State.mutedSince_iff (s : State) (l : Nat) :
    s.mutedSince l = true ↔ ∃ e, s.evaluation = some e ∧ e.mutedSince.getD l false = true := by
  unfold State.mutedSince
  cases s.evaluation <;> simp

theorem LaneState.noticed_iff (st : LaneState) : st.noticed = true ↔ st = .muted ∨ st = .blank ∨ st = .lockout := by
  simp [LaneState.noticed, or_assoc]

/-! ### The scales of a settled lane (R87 to R91) -/

theorem settledTarget_eq (p : LanePlan) (x : Settled) (budgetCeiling : Nat) :
    settledTarget p x budgetCeiling = if x = .silent then 0 else min 65536 (p.pcal * budgetCeiling / 1000) := by
  cases x <;> rfl

theorem appliedScale_le (p : LanePlan) (q : Parameters) (x : Settled) (target previous : Nat) :
    appliedScale p q x target previous ≤ target := by
  unfold appliedScale
  split
  · exact Nat.zero_le target
  · exact Nat.zero_le target
  · exact Nat.min_le_right _ target
  · exact Nat.min_le_right _ target
  · exact Nat.min_le_left target _

theorem appliedScale_eq (p : LanePlan) (q : Parameters) (x : Settled) (target previous : Nat) :
    appliedScale p q x target previous = match x with
      | .silent => 0
      | .probe true => 0
      | .probe false => min (p.pcal * q.probeLevel / 1000) target
      | .running true => min (p.pcal * q.restrikeLevel / 1000) target
      | .running false => min target (previous + max 1 (p.pcal * p.rampRate / 1000)) := by
  unfold appliedScale
  split <;> rfl

theorem completedState_of_not_running {x : Settled} (h : ∀ b, x ≠ .running b) (st : LaneState) (target applied : Nat) :
    completedState x st target applied = st := by
  cases x with
  | running b => exact absurd rfl (h b)
  | silent => rfl
  | probe b => rfl

/-! ### One lane's completion -/

section CompleteLane

variable {s : State} {sweep : SweepNo} {settled : List Settled} {demands grants : List Nat} {l : Nat}

/-- Lane `l`'s record as step 7 completes it. -/
def State.completed (s : State) (sweep : SweepNo) (settled : List Settled) (demands grants : List Nat) (l : Nat) : Lane :=
  (s.lane l).complete (s.activeSet.plan l) s.activeSet.parameters (settled.getD l .silent) (demands.getD l 0)
    (grants.getD l 0) (s.startState l) sweep

theorem completeLane_of_muted (h : s.mutedSince l = true) :
    completeLane sweep settled demands grants l s =
      s.setLane l ((s.lane l).completeMuted (s.activeSet.plan l) (demands.getD l 0) (grants.getD l 0)) := if_pos h

theorem completeLane_of_not_muted (h : ¬ s.mutedSince l = true) :
    completeLane sweep settled demands grants l s = State.withNotices
      (s.setLaneScaled l (s.completed sweep settled demands grants l))
      (s.queuing (laneChangeNotice l (s.startState l) (s.completed sweep settled demands grants l)).toList) := by
  refine (if_neg h).trans ?_
  rw [State.queueNotice?_eq_queuing]
  exact State.queuing_eq_withNotices (q := s) (by exact ⟨rfl, rfl, rfl⟩) _

/-- A completed lane's notice: one when its state differs from the one it began in and R116 asks for it. -/
theorem State.completed_notice (hother : (s.completed sweep settled demands grants l).state ≠ s.startState l)
    (h : (s.startState l).noticed = true ∨ (s.completed sweep settled demands grants l).state.noticed = true) :
    laneChangeNotice l (s.startState l) (s.completed sweep settled demands grants l) =
      some (({ subject := .lane l, state := .lane (s.completed sweep settled demands grants l).state
               value := if (s.completed sweep settled demands grants l).state = .lockout
                 then .cause (s.completed sweep settled demands grants l).lockoutCause
                 else .number (s.completed sweep settled demands grants l).applied
               sweep, changes := 1 } : Notice)) := by
  have hentry : (s.completed sweep settled demands grants l).stateEntrySweep = sweep := if_neg hother
  rw [laneChangeNotice_of_noticed (Ne.symm hother) h, laneNotice, hentry]

theorem State.completed_no_notice (h : (s.completed sweep settled demands grants l).state = s.startState l ∨
      ¬ ((s.startState l).noticed = true ∨ (s.completed sweep settled demands grants l).state.noticed = true)) :
    laneChangeNotice l (s.startState l) (s.completed sweep settled demands grants l) = none := by
  obtain hsame | hnot := h
  · exact laneChangeNotice_of_same hsame.symm l
  · obtain ⟨hold, hnew⟩ := not_or.mp hnot
    exact laneChangeNotice_of_unnoticed (Bool.eq_false_iff.mpr hold) (Bool.eq_false_iff.mpr hnew) l

end CompleteLane

theorem State.eq_of_completed {s q t : State} {l : Nat} {v : Lane} (h : t = State.withNotices (s.setLaneScaled l v) q) :
    t = { s with
      lanes := t.lanes, multipliers := t.multipliers, notices := t.notices, noticesDropped := t.noticesDropped
      droppedCount := t.droppedCount } := by
  subst h
  rfl

/-- Settles O42. -/
theorem laneTakesItsScalesAtCompletion : Obligations.LaneTakesItsScalesAtCompletion := by
  unfold Obligations.LaneTakesItsScalesAtCompletion
  intro s sweep settled demands grants l p hl hmultiplier hplan v q x demand grant budgetCeiling start noticed mutedSince t w
  have hmuted : s.mutedSince l = true ↔ mutedSince := s.mutedSince_iff l
  have hstart : s.startState l = start := s.startState_eq l
  refine ⟨fun h => ?_, fun h => ?_⟩
  · have ht : t = _ := completeLane_of_muted (hmuted.mpr h)
    rw [ht, hplan]
    rfl
  · have ht : t = _ := completeLane_of_not_muted (mt hmuted.mp h)
    have hw : w = s.completed sweep settled demands grants l := by
      refine State.lane_of_set (s := s) ?_ hl
      rw [ht]
      rfl
    have hmult : t.multipliers = s.multipliers.set l (multiplierOf w.applied) := by
      rw [hw, ht]
      rfl
    have hlanes : t.lanes = s.lanes.set l w := by
      rw [hw, ht]
      rfl
    have hnoticed (st : LaneState) : st.noticed = true ↔ noticed st := st.noticed_iff
    have hcompleted : w = { v with
        demand, grant, budgetCeiling, target := settledTarget p x budgetCeiling
        applied := appliedScale p q x (settledTarget p x budgetCeiling) v.applied
        state := completedState x v.state (settledTarget p x budgetCeiling)
          (appliedScale p q x (settledTarget p x budgetCeiling) v.applied)
        restriking := false
        stateEntrySweep := if completedState x v.state (settledTarget p x budgetCeiling)
          (appliedScale p q x (settledTarget p x budgetCeiling) v.applied) = start then v.stateEntrySweep else sweep } := by
      rw [hw, State.completed, hplan, hstart]
      rfl
    have htarget : w.target = settledTarget p x budgetCeiling := by rw [hcompleted]
    have happlied : w.applied = appliedScale p q x w.target v.applied := by rw [hcompleted]
    have hstate : w.state = completedState x v.state w.target w.applied := by rw [hcompleted]
    refine ⟨?_, htarget.trans (settledTarget_eq p x budgetCeiling), happlied.trans (appliedScale_eq p q x w.target v.applied),
      happlied.le.trans (appliedScale_le p q x w.target v.applied), State.multiplier_of_set hmult hmultiplier,
      fun b hb => ?_, fun hother => hstate.trans (completedState_of_not_running hother _ _ _), fun hne hmarked => ?_,
      fun hnone => ?_, fun k hk => ⟨State.lane_of_set_ne hlanes hk.symm, State.multiplier_of_set_ne hmult hk.symm⟩,
      State.eq_of_completed ht⟩
    · rw [hstate, happlied, htarget]
      exact hcompleted
    · rw [hstate, hb]
      rfl
    · rw [← hstart] at hne hmarked
      rw [← hnoticed, ← hnoticed, hw] at hmarked
      rw [hw] at hne ⊢
      rw [ht, State.completed_notice hne hmarked]
      exact State.noticesOf_withNotices _ _
    · rw [← hstart, ← hnoticed, ← hnoticed, hw] at hnone
      rw [ht, State.completed_no_notice hnone]
      exact State.noticesOf_withNotices _ _

end Sys2Proof.Machine

/-! PROOFS. The budget apportioner: the order of service, and the grants of a short budget (R143 to R146). -/

namespace Sys2Proof.Machine

/-! ### Sums over lanes -/

/-- Two sums of one function agree when the second list holds every index at which the function is not 0. -/
theorem sum_map_of_support {xs ks : List Nat} (hxs : xs.Nodup) (hks : ks.Nodup) (hsub : ∀ k ∈ ks, k ∈ xs) {f : Nat → Nat}
    (hzero : ∀ x ∈ xs, x ∉ ks → f x = 0) : (xs.map f).sum = (ks.map f).sum := by
  rw [← List.sum_toFinset f hxs, ← List.sum_toFinset f hks]
  refine (Finset.sum_subset (fun k hk => ?_) fun x hx hnot => ?_).symm
  · exact List.mem_toFinset.mpr (hsub k (List.mem_toFinset.mp hk))
  · exact hzero x (List.mem_toFinset.mp hx) (mt List.mem_toFinset.mpr hnot)

/-! ### Grants by lane -/

theorem grantOf_of_not_mem {grants : List (Nat × Nat)} {l : Nat} (h : l ∉ grants.map Prod.fst) : grantOf grants l = 0 := by
  have hnone : grants.lookup l = none := List.lookup_eq_none_iff.mpr fun p hp =>
    bne_iff_ne.mpr fun he => h (List.mem_map.mpr ⟨p, hp, he.symm⟩)
  rw [grantOf, hnone]
  rfl

theorem grantOf_of_mem {grants : List (Nat × Nat)} (hnodup : (grants.map Prod.fst).Nodup) {p : Nat × Nat} (hp : p ∈ grants) :
    grantOf grants p.1 = p.2 := by
  obtain ⟨before, after, rfl⟩ := List.append_of_mem hp
  rw [List.map_append, List.map_cons, List.nodup_append] at hnodup
  obtain ⟨_, _, hapart⟩ := hnodup
  have hsome : (before ++ p :: after).lookup p.1 = some p.2 := List.lookup_eq_some_iff.mpr
    ⟨before, after, rfl, fun q hq => bne_iff_ne.mpr fun he =>
      hapart q.1 (List.mem_map_of_mem hq) p.1 List.mem_cons_self he.symm⟩
  rw [grantOf, hsome]
  rfl

/-- The grants of some of the lanes served sum to what is listed for them. -/
theorem sum_grantOf {grants some : List (Nat × Nat)} (hnodup : (grants.map Prod.fst).Nodup) (hsub : ∀ p ∈ some, p ∈ grants) :
    ((some.map Prod.fst).map (grantOf grants)).sum = (some.map Prod.snd).sum := by
  rw [List.map_map]
  exact congrArg List.sum (List.map_congr_left fun p hp => grantOf_of_mem hnodup (hsub p hp))

/-! ### Service, lane by lane (R144, R146) -/

theorem serveStrict_lanes (r : Nat) (cs : List Claim) : (serveStrict r cs).1.map Prod.fst = cs.map Claim.lane := by
  induction cs generalizing r with
  | nil => rfl
  | cons c cs ih => exact congrArg (c.lane :: ·) (ih _)

theorem serveStrict_sum (r : Nat) (cs : List Claim) :
    ((serveStrict r cs).1.map Prod.snd).sum + (serveStrict r cs).2 = r := by
  induction cs generalizing r with
  | nil => exact Nat.zero_add r
  | cons c cs ih =>
    have hrest := ih (r - min c.demand r)
    simp only [serveStrict, List.map_cons, List.sum_cons]
    omega

theorem serveStrict_le (r : Nat) (cs : List Claim) :
    ∀ p ∈ (serveStrict r cs).1, ∃ c ∈ cs, c.lane = p.1 ∧ p.2 ≤ c.demand := by
  induction cs generalizing r with
  | nil => exact nofun
  | cons c cs ih =>
    refine List.forall_mem_cons.mpr ⟨⟨c, List.mem_cons_self, rfl, Nat.min_le_left _ _⟩, fun p hp => ?_⟩
    obtain ⟨c', hc', h⟩ := ih _ p hp
    exact ⟨c', List.mem_cons_of_mem c hc', h⟩

theorem serveStrict_append (r : Nat) (as bs : List Claim) :
    serveStrict r (as ++ bs) =
      ((serveStrict r as).1 ++ (serveStrict (serveStrict r as).2 bs).1, (serveStrict (serveStrict r as).2 bs).2) := by
  induction as generalizing r with
  | nil => rfl
  | cons c as ih =>
    simp only [List.cons_append, serveStrict, ih]

theorem totalWeight_cons (c : Claim) (cs : List Claim) : totalWeight (c :: cs) = c.share + totalWeight cs := rfl

theorem totalWeight_append (as bs : List Claim) : totalWeight (as ++ bs) = totalWeight as + totalWeight bs := by
  rw [totalWeight, List.map_append, List.sum_append]
  rfl

theorem serveWeighted_lanes (r w : Nat) (cs : List Claim) :
    (serveWeighted r w cs).1.map Prod.fst = cs.map Claim.lane := by
  induction cs generalizing r w with
  | nil => rfl
  | cons c cs ih => exact congrArg (c.lane :: ·) (ih _ _)

theorem serveWeighted_sum {w : Nat} (r : Nat) {cs : List Claim} (hw : totalWeight cs ≤ w) :
    ((serveWeighted r w cs).1.map Prod.snd).sum + (serveWeighted r w cs).2 = r := by
  induction cs generalizing r w with
  | nil => exact Nat.zero_add r
  | cons c cs ih =>
    rw [totalWeight_cons] at hw
    have hpart : r * c.share / w ≤ r :=
      Nat.div_le_of_le_mul (by rw [Nat.mul_comm w]; exact Nat.mul_le_mul_left r (by omega))
    have hrest := ih (r - min c.demand (r * c.share / w)) (w := w - c.share) (by omega)
    simp only [serveWeighted, List.map_cons, List.sum_cons]
    omega

theorem serveWeighted_le (r w : Nat) (cs : List Claim) :
    ∀ p ∈ (serveWeighted r w cs).1, ∃ c ∈ cs, c.lane = p.1 ∧ p.2 ≤ c.demand := by
  induction cs generalizing r w with
  | nil => exact nofun
  | cons c cs ih =>
    refine List.forall_mem_cons.mpr ⟨⟨c, List.mem_cons_self, rfl, Nat.min_le_left _ _⟩, fun p hp => ?_⟩
    obtain ⟨c', hc', h⟩ := ih _ _ p hp
    exact ⟨c', List.mem_cons_of_mem c hc', h⟩

theorem serveWeighted_append (r w : Nat) (as bs : List Claim) :
    serveWeighted r w (as ++ bs) =
      ((serveWeighted r w as).1 ++ (serveWeighted (serveWeighted r w as).2 (w - totalWeight as) bs).1,
        (serveWeighted (serveWeighted r w as).2 (w - totalWeight as) bs).2) := by
  induction as generalizing r w with
  | nil => rfl
  | cons c as ih =>
    simp only [List.cons_append, serveWeighted, ih, totalWeight_cons, Nat.sub_sub]

/-! ### Claims -/

/-- The class in which lane `l` claims. -/
def TableSet.classOf (t : TableSet) (l : Nat) : Option BudgetClass := (t.plan l).map LanePlan.budgetClass

theorem pairwise_claims {f : Nat × Nat → Option Claim} (hf : ∀ x c, f x = some c → c.lane = x.2) (demands : List Nat) :
    (demands.zipIdx.filterMap f).Pairwise fun a b => a.lane < b.lane := by
  have hascend : demands.zipIdx.Pairwise fun x y => x.2 < y.2 := by
    refine List.pairwise_map.mp ?_
    rw [List.zipIdx_map_snd]
    exact List.pairwise_lt_range'
  refine List.Pairwise.filterMap f (fun x y hlt a ha b hb => ?_) hascend
  rwa [hf x a ha, hf y b hb]

theorem mem_zipIdx_iff {demands : List Nat} {d l : Nat} :
    (d, l) ∈ demands.zipIdx ↔ l < demands.length ∧ d = demands.getD l 0 := by
  rw [List.mk_mem_zipIdx_iff_getElem?, List.getElem?_eq_some_iff]
  constructor
  · rintro ⟨hl, rfl⟩
    exact ⟨hl, (List.getD_eq_getElem demands 0 hl).symm⟩
  · rintro ⟨hl, rfl⟩
    exact ⟨hl, (List.getD_eq_getElem demands 0 hl).symm⟩

section Claims

variable {t : TableSet} {demands : List Nat} {c : Claim}

theorem mem_strictClaims : c ∈ strictClaims t demands ↔
    c.lane < demands.length ∧ c.demand = demands.getD c.lane 0 ∧ t.classOf c.lane = some (.strict c.share) := by
  unfold strictClaims TableSet.classOf
  rw [List.mem_filterMap]
  constructor
  · rintro ⟨⟨d, l⟩, hmem, hclaim⟩
    obtain ⟨hl, hd⟩ := mem_zipIdx_iff.mp hmem
    dsimp only at hclaim
    split at hclaim
    · rename_i hplan
      obtain rfl := Option.some.inj hclaim
      exact ⟨hl, hd, by rw [hplan]; rfl⟩
    · exact absurd hclaim nofun
  · rintro ⟨hl, hd, hclass⟩
    obtain ⟨p, hplan, hclass⟩ := Option.map_eq_some_iff.mp hclass
    refine ⟨(c.demand, c.lane), mem_zipIdx_iff.mpr ⟨hl, hd⟩, ?_⟩
    obtain ⟨⟩ := p
    obtain rfl := hclass
    simp only [hplan]

theorem mem_weightedClaims : c ∈ weightedClaims t demands ↔
    c.lane < demands.length ∧ c.demand = demands.getD c.lane 0 ∧ t.classOf c.lane = some (.weighted c.share) := by
  unfold weightedClaims TableSet.classOf
  rw [List.mem_filterMap]
  constructor
  · rintro ⟨⟨d, l⟩, hmem, hclaim⟩
    obtain ⟨hl, hd⟩ := mem_zipIdx_iff.mp hmem
    dsimp only at hclaim
    split at hclaim
    · rename_i hplan
      obtain rfl := Option.some.inj hclaim
      exact ⟨hl, hd, by rw [hplan]; rfl⟩
    · exact absurd hclaim nofun
  · rintro ⟨hl, hd, hclass⟩
    obtain ⟨p, hplan, hclass⟩ := Option.map_eq_some_iff.mp hclass
    refine ⟨(c.demand, c.lane), mem_zipIdx_iff.mpr ⟨hl, hd⟩, ?_⟩
    obtain ⟨⟩ := p
    obtain rfl := hclass
    simp only [hplan]

end Claims

/-! ### The order of service (R144, R145) -/

theorem servedBefore_eq (t : TableSet) (demands : List Nat) (i j : Nat) :
    servedBefore t demands i j = match t.classOf i, t.classOf j with
      | some (.strict a), some (.strict b) => a < b || (a == b && i < j)
      | some (.strict _), some (.weighted _) => true
      | some (.weighted v), some (.weighted w) =>
        demands.getD i 0 * w < demands.getD j 0 * v ||
          (demands.getD i 0 * w == demands.getD j 0 * v && i < j)
      | _, _ => false := by
  unfold servedBefore TableSet.classOf
  rfl

theorem servedBefore_class {t : TableSet} {demands : List Nat} {i j : Nat} (h : servedBefore t demands i j = true) :
    t.classOf i ≠ none := by
  intro hnone
  rw [servedBefore_eq, hnone] at h
  exact absurd h Bool.false_ne_true

theorem servedBefore_asymm {t : TableSet} {demands : List Nat} {i j : Nat} (h : servedBefore t demands i j = true) :
    servedBefore t demands j i = false := by
  rw [servedBefore_eq] at h ⊢
  split at h
  · rename_i a b hi hj
    simp only [hi, hj, Bool.or_eq_true, Bool.and_eq_true, decide_eq_true_eq, beq_iff_eq] at h ⊢
    simp only [Bool.or_eq_false_iff, Bool.and_eq_false_iff, decide_eq_false_iff_not, beq_eq_false_iff_ne]
    omega
  · rename_i hi hj
    simp only [hi, hj]
  · rename_i v w hi hj
    simp only [hi, hj, Bool.or_eq_true, Bool.and_eq_true, decide_eq_true_eq, beq_iff_eq] at h ⊢
    simp only [Bool.or_eq_false_iff, Bool.and_eq_false_iff, decide_eq_false_iff_not, beq_eq_false_iff_ne]
    omega
  · exact absurd h Bool.false_ne_true

theorem servedBefore_irrefl (t : TableSet) (demands : List Nat) (i : Nat) : servedBefore t demands i i = false := by
  by_contra h
  exact h (servedBefore_asymm (Bool.not_eq_false _ ▸ h))

/-- A lane's place among the weighted lanes: demand per unit of weight, then lane number. -/
def Claim.place (c : Claim) : ℚ ×ₗ ℕ := toLex ((c.demand : ℚ) / c.share, c.lane)

theorem Claim.before_iff {a b : Claim} (ha : 0 < a.share) (hb : 0 < b.share) : a.before b = true ↔ a.place < b.place := by
  have ha' : (0 : ℚ) < a.share := by exact_mod_cast ha
  have hb' : (0 : ℚ) < b.share := by exact_mod_cast hb
  unfold Claim.before Claim.place
  rw [Prod.Lex.toLex_lt_toLex, div_lt_div_iff₀ ha' hb', div_eq_div_iff ha'.ne' hb'.ne']
  simp only [Bool.or_eq_true, Bool.and_eq_true, decide_eq_true_eq, beq_iff_eq]
  norm_cast

theorem insertClaim_perm (a : Claim) (cs : List Claim) : (insertClaim a cs).Perm (a :: cs) := by
  induction cs with
  | nil => exact .refl _
  | cons b cs ih =>
    unfold insertClaim
    split
    · exact .refl _
    · exact (ih.cons b).trans (.swap a b cs)

theorem orderWeighted_perm (cs : List Claim) : (orderWeighted cs).Perm cs := by
  induction cs with
  | nil => exact .refl _
  | cons a cs ih => exact (insertClaim_perm a _).trans (ih.cons a)

theorem insertClaim_sorted {a : Claim} {cs : List Claim} (hpos : ∀ c ∈ a :: cs, 0 < c.share)
    (hlane : ∀ c ∈ cs, c.lane ≠ a.lane) (hsorted : cs.Pairwise fun a b => a.place < b.place) :
    (insertClaim a cs).Pairwise fun a b => a.place < b.place := by
  induction cs with
  | nil => exact List.pairwise_singleton _ a
  | cons b cs ih =>
    obtain ⟨ha, hb, hcs⟩ : 0 < a.share ∧ 0 < b.share ∧ ∀ c ∈ cs, 0 < c.share := by simpa using hpos
    obtain ⟨hleast, hrest⟩ := List.pairwise_cons.mp hsorted
    unfold insertClaim
    split
    · rename_i hbefore
      have hlt := (Claim.before_iff ha hb).mp hbefore
      exact List.pairwise_cons.mpr ⟨List.forall_mem_cons.mpr ⟨hlt, fun c hc => hlt.trans (hleast c hc)⟩, hsorted⟩
    · rename_i hnot
      have hne : b.place ≠ a.place := fun he => hlane b List.mem_cons_self (congrArg (fun p => (ofLex p).2) he)
      have hlt : b.place < a.place := lt_of_le_of_ne (not_lt.mp (mt (Claim.before_iff ha hb).mpr hnot)) hne
      refine List.pairwise_cons.mpr ⟨fun c hc => ?_, ih (List.forall_mem_cons.mpr ⟨ha, hcs⟩)
        (fun c hc => hlane c (List.mem_cons_of_mem b hc)) hrest⟩
      obtain rfl | hc := List.mem_cons.mp ((insertClaim_perm a cs).mem_iff.mp hc)
      · exact hlt
      · exact hleast c hc

theorem orderWeighted_sorted {cs : List Claim} (hpos : ∀ c ∈ cs, 0 < c.share) (hlanes : cs.Pairwise fun a b => a.lane < b.lane) :
    (orderWeighted cs).Pairwise fun a b => a.place < b.place := by
  induction cs with
  | nil => exact .nil
  | cons a cs ih =>
    obtain ⟨hleast, hrest⟩ := List.pairwise_cons.mp hlanes
    refine insertClaim_sorted (fun c hc => hpos c ?_) (fun c hc => ?_) (ih (fun c hc => hpos c (.tail a hc)) hrest)
    · exact ((orderWeighted_perm cs).cons a).mem_iff.mp hc
    · exact (hleast c ((orderWeighted_perm cs).mem_iff.mp hc)).ne'

theorem mem_orderStrict {cs : List Claim} {c : Claim} : c ∈ orderStrict cs ↔ c ∈ cs ∧ c.share < 9 := by
  unfold orderStrict
  rw [List.mem_flatMap]
  simp only [List.mem_range, List.mem_filter, beq_iff_eq]
  constructor
  · rintro ⟨rank, hlt, hc, rfl⟩
    exact ⟨hc, hlt⟩
  · rintro ⟨hc, hlt⟩
    exact ⟨c.share, hlt, hc, rfl⟩

theorem orderStrict_sorted {cs : List Claim} (hlanes : cs.Pairwise fun a b => a.lane < b.lane) :
    (orderStrict cs).Pairwise fun a b => a.share < b.share ∨ (a.share = b.share ∧ a.lane < b.lane) := by
  refine List.pairwise_flatMap.mpr ⟨fun rank _ => ?_, (List.pairwise_lt_range (n := 9)).imp fun hlt a ha b hb => ?_⟩
  · refine (hlanes.filter _).imp_of_mem fun ha hb hlt => .inr ⟨?_, hlt⟩
    exact (eq_of_beq (List.mem_filter.mp ha).2).trans (eq_of_beq (List.mem_filter.mp hb).2).symm
  · rw [eq_of_beq (List.mem_filter.mp ha).2, eq_of_beq (List.mem_filter.mp hb).2]
    exact .inl hlt

section Order

variable {t : TableSet} {demands : List Nat}

theorem pairwise_strictClaims (t : TableSet) (demands : List Nat) :
    (strictClaims t demands).Pairwise fun a b => a.lane < b.lane := by
  refine pairwise_claims (fun ⟨d, l⟩ c h => ?_) demands
  dsimp only at h
  split at h
  · exact (Option.some.inj h) ▸ rfl
  · exact absurd h nofun

theorem pairwise_weightedClaims (t : TableSet) (demands : List Nat) :
    (weightedClaims t demands).Pairwise fun a b => a.lane < b.lane := by
  refine pairwise_claims (fun ⟨d, l⟩ c h => ?_) demands
  dsimp only at h
  split at h
  · exact (Option.some.inj h) ▸ rfl
  · exact absurd h nofun

/-- The strict lanes served, in order. -/
def strictOrder (t : TableSet) (demands : List Nat) : List Claim := orderStrict (strictClaims t demands)

/-- The weighted lanes, in order. -/
def weightedOrder (t : TableSet) (demands : List Nat) : List Claim := orderWeighted (weightedClaims t demands)

theorem mem_strictOrder {c : Claim} : c ∈ strictOrder t demands ↔
    (c.lane < demands.length ∧ c.demand = demands.getD c.lane 0 ∧ t.classOf c.lane = some (.strict c.share)) ∧
      c.share < 9 := by
  rw [strictOrder, mem_orderStrict, mem_strictClaims]

theorem mem_weightedOrder {c : Claim} : c ∈ weightedOrder t demands ↔
    c.lane < demands.length ∧ c.demand = demands.getD c.lane 0 ∧ t.classOf c.lane = some (.weighted c.share) := by
  rw [weightedOrder, (orderWeighted_perm _).mem_iff, mem_weightedClaims]

theorem strictOrder_sorted (t : TableSet) (demands : List Nat) :
    (strictOrder t demands).Pairwise fun a b => servedBefore t demands a.lane b.lane = true := by
  refine (orderStrict_sorted (pairwise_strictClaims t demands)).imp_of_mem fun {a b} ha hb h => ?_
  obtain ⟨⟨_, _, hclass⟩, _⟩ := mem_strictOrder.mp ha
  obtain ⟨⟨_, _, hclass'⟩, _⟩ := mem_strictOrder.mp hb
  rw [servedBefore_eq, hclass, hclass']
  simpa using h

theorem weightedOrder_sorted (hpos : ∀ l w, t.classOf l = some (.weighted w) → 0 < w) :
    (weightedOrder t demands).Pairwise fun a b => servedBefore t demands a.lane b.lane = true := by
  have hshare (c : Claim) (hc : c ∈ weightedOrder t demands) : 0 < c.share := hpos _ _ (mem_weightedOrder.mp hc).2.2
  have hsorted := orderWeighted_sorted (fun c hc => hpos _ _ (mem_weightedClaims.mp hc).2.2)
    (pairwise_weightedClaims t demands)
  refine List.Pairwise.imp_of_mem (fun {a b} ha hb h => ?_) hsorted
  obtain ⟨_, hdemand, hclass⟩ := mem_weightedOrder.mp ha
  obtain ⟨_, hdemand', hclass'⟩ := mem_weightedOrder.mp hb
  have hbefore := (Claim.before_iff (hshare a ha) (hshare b hb)).mpr h
  rw [servedBefore_eq, hclass, hclass', ← hdemand, ← hdemand']
  exact hbefore

theorem strict_before_weighted {a b : Claim} (ha : a ∈ strictOrder t demands) (hb : b ∈ weightedOrder t demands) :
    servedBefore t demands a.lane b.lane = true := by
  obtain ⟨⟨_, _, hclass⟩, _⟩ := mem_strictOrder.mp ha
  obtain ⟨_, _, hclass'⟩ := mem_weightedOrder.mp hb
  rw [servedBefore_eq, hclass, hclass']

theorem serviceOrder_nodup (t : TableSet) (demands : List Nat) :
    ((strictOrder t demands ++ weightedOrder t demands).map Claim.lane).Nodup := by
  have hapart {a b : Claim} (h : servedBefore t demands a.lane b.lane = true) : a.lane ≠ b.lane := fun he => by
    rw [he, servedBefore_irrefl] at h
    exact absurd h Bool.false_ne_true
  have hweighted : ((weightedOrder t demands).map Claim.lane).Nodup :=
    ((orderWeighted_perm _).map Claim.lane).nodup_iff.mpr
      (List.pairwise_map.mpr ((pairwise_weightedClaims t demands).imp Nat.ne_of_lt))
  rw [List.map_append, List.nodup_append]
  refine ⟨List.pairwise_map.mpr ((strictOrder_sorted t demands).imp hapart), hweighted, fun k hk k' hk' => ?_⟩
  obtain ⟨a, ha, rfl⟩ := List.mem_map.mp hk
  obtain ⟨b, hb, rfl⟩ := List.mem_map.mp hk'
  exact hapart (strict_before_weighted ha hb)

theorem serviceOrder_lt {c : Claim} (hc : c ∈ strictOrder t demands ++ weightedOrder t demands) :
    c.lane < demands.length ∧ c.demand = demands.getD c.lane 0 ∧ t.classOf c.lane ≠ none := by
  obtain hc | hc := List.mem_append.mp hc
  · obtain ⟨⟨hl, hd, hclass⟩, _⟩ := mem_strictOrder.mp hc
    exact ⟨hl, hd, by rw [hclass]; nofun⟩
  · obtain ⟨hl, hd, hclass⟩ := mem_weightedOrder.mp hc
    exact ⟨hl, hd, by rw [hclass]; nofun⟩

end Order

end Sys2Proof.Machine

/-! PROOFS. The site budget: what a short budget grants, and the apportionment of lane handling (R139 to R147). -/

namespace Sys2Proof.Machine

section ShareOut

variable {t : TableSet} {siteBudget : Nat} {demands : List Nat}

/-! ### What a short budget grants -/

/-- What the strict lanes leave, with their grants. -/
def strictService (t : TableSet) (siteBudget : Nat) (demands : List Nat) : List (Nat × Nat) × Nat :=
  serveStrict siteBudget (strictOrder t demands)

theorem shareOut_eq (t : TableSet) (siteBudget : Nat) (demands : List Nat) :
    shareOut t siteBudget demands =
      ((strictService t siteBudget demands).1 ++
        (serveWeighted (strictService t siteBudget demands).2 (totalWeight (weightedOrder t demands))
          (weightedOrder t demands)).1,
        (serveWeighted (strictService t siteBudget demands).2 (totalWeight (weightedOrder t demands))
          (weightedOrder t demands)).2) := rfl

theorem shareOut_lanes (t : TableSet) (siteBudget : Nat) (demands : List Nat) :
    (shareOut t siteBudget demands).1.map Prod.fst = (strictOrder t demands ++ weightedOrder t demands).map Claim.lane := by
  rw [shareOut_eq, List.map_append, List.map_append, strictService, serveStrict_lanes, serveWeighted_lanes]

theorem shareOut_nodup (t : TableSet) (siteBudget : Nat) (demands : List Nat) :
    ((shareOut t siteBudget demands).1.map Prod.fst).Nodup := by
  rw [shareOut_lanes]
  exact serviceOrder_nodup t demands

theorem shareOut_sum (t : TableSet) (siteBudget : Nat) (demands : List Nat) :
    ((shareOut t siteBudget demands).1.map Prod.snd).sum + (shareOut t siteBudget demands).2 = siteBudget := by
  have hstrict := serveStrict_sum siteBudget (strictOrder t demands)
  have hweighted := serveWeighted_sum (strictService t siteBudget demands).2 (le_refl (totalWeight (weightedOrder t demands)))
  rw [shareOut_eq, List.map_append, List.sum_append, Nat.add_assoc, hweighted]
  exact hstrict

theorem grantOf_shareOut_le (t : TableSet) (siteBudget : Nat) (demands : List Nat) (l : Nat) :
    grantOf (shareOut t siteBudget demands).1 l ≤ demands.getD l 0 := by
  by_cases hl : l ∈ (shareOut t siteBudget demands).1.map Prod.fst
  · obtain ⟨p, hp, rfl⟩ := List.mem_map.mp hl
    obtain ⟨c, hc, hlane, hle⟩ : ∃ c ∈ strictOrder t demands ++ weightedOrder t demands, c.lane = p.1 ∧ p.2 ≤ c.demand := by
      obtain hp | hp := List.mem_append.mp hp
      · obtain ⟨c, hc, h⟩ := serveStrict_le _ _ p hp
        exact ⟨c, List.mem_append_left _ hc, h⟩
      · obtain ⟨c, hc, h⟩ := serveWeighted_le _ _ _ p hp
        exact ⟨c, List.mem_append_right _ hc, h⟩
    rw [grantOf_of_mem (shareOut_nodup t siteBudget demands) hp, ← hlane, ← (serviceOrder_lt hc).2.1]
    exact hle
  · rw [grantOf_of_not_mem hl]
    exact Nat.zero_le _

theorem grantOf_shareOut_unserved {l : Nat} (h : demands.length ≤ l ∨ t.plan l = none) :
    grantOf (shareOut t siteBudget demands).1 l = 0 := by
  refine grantOf_of_not_mem ?_
  rw [shareOut_lanes, List.mem_map]
  rintro ⟨c, hc, rfl⟩
  obtain ⟨hlt, _, hclass⟩ := serviceOrder_lt hc
  obtain hle | hnone := h
  · exact Nat.not_lt.mpr hle hlt
  · exact hclass (by rw [TableSet.classOf, hnone]; rfl)

/-- The grants of a short budget, lane by lane. -/
theorem getD_grants (t : TableSet) (siteBudget : Nat) (demands : List Nat) (l : Nat) :
    ((List.range demands.length).map (grantOf (shareOut t siteBudget demands).1)).getD l 0 =
      grantOf (shareOut t siteBudget demands).1 l := by
  by_cases hl : l < demands.length
  · simp [List.getD_eq_getElem?_getD, hl]
  · rw [grantOf_shareOut_unserved (.inl (Nat.not_lt.mp hl))]
    simp [List.getD_eq_getElem?_getD, hl]

theorem sum_grants (t : TableSet) (siteBudget : Nat) (demands : List Nat) :
    ((List.range demands.length).map (grantOf (shareOut t siteBudget demands).1)).sum +
      (shareOut t siteBudget demands).2 = siteBudget := by
  have hnodup := shareOut_nodup t siteBudget demands
  have hsub : ∀ k ∈ (shareOut t siteBudget demands).1.map Prod.fst, k ∈ List.range demands.length := by
    rw [shareOut_lanes]
    intro k hk
    obtain ⟨c, hc, rfl⟩ := List.mem_map.mp hk
    exact List.mem_range.mpr (serviceOrder_lt hc).1
  rw [sum_map_of_support List.nodup_range hnodup hsub fun x _ hx => grantOf_of_not_mem hx,
    sum_grantOf hnodup fun _ hp => hp]
  exact shareOut_sum t siteBudget demands

/-! ### A lane's grant from what the lanes served before it have left -/

/-- Every claim can be served: a rank is at most 8, and a weight is positive. -/
def TableSet.SharesInRange (t : TableSet) : Prop :=
  ∀ l, (∀ rank, t.classOf l = some (.strict rank) → rank < 9) ∧ ∀ w, t.classOf l = some (.weighted w) → 0 < w

theorem sharesInRange_of_plans (h : ∀ l e, t.plan l = some e → e.InRange) : t.SharesInRange := by
  refine fun l => ⟨fun rank hclass => ?_, fun w hclass => ?_⟩ <;>
  · obtain ⟨e, hplan, hclass⟩ := Option.map_eq_some_iff.mp hclass
    obtain ⟨_, _, _, _, _, hshare, _⟩ := h l e hplan
    rw [hclass] at hshare
    dsimp only at hshare
    omega

theorem exists_claim (hshares : t.SharesInRange) {k : Nat} (hk : k < demands.length) (hclass : t.classOf k ≠ none) :
    ∃ a ∈ strictOrder t demands ++ weightedOrder t demands, a.lane = k := by
  obtain ⟨b, hb⟩ := Option.ne_none_iff_exists'.mp hclass
  cases b with
  | strict rank =>
    exact ⟨⟨k, demands.getD k 0, rank⟩,
      List.mem_append_left _ (mem_strictOrder.mpr ⟨⟨hk, rfl, hb⟩, (hshares k).1 rank hb⟩), rfl⟩
  | weighted w =>
    exact ⟨⟨k, demands.getD k 0, w⟩, List.mem_append_right _ (mem_weightedOrder.mpr ⟨hk, rfl, hb⟩), rfl⟩

/-- The lanes served before a lane are those whose claims stand before its own. -/
theorem servedBefore_iff (hshares : t.SharesInRange) {pre post : List Claim} {c : Claim}
    (horder : strictOrder t demands ++ weightedOrder t demands = pre ++ c :: post) (k : Nat) :
    (k < demands.length ∧ servedBefore t demands k c.lane = true) ↔ k ∈ pre.map Claim.lane := by
  have hsorted : (pre ++ c :: post).Pairwise fun a b => servedBefore t demands a.lane b.lane = true := by
    rw [← horder, List.pairwise_append]
    exact ⟨strictOrder_sorted t demands, weightedOrder_sorted fun l w => (hshares l).2 w,
      fun a ha b hb => strict_before_weighted ha hb⟩
  obtain ⟨_, hfrom, hacross⟩ := List.pairwise_append.mp hsorted
  obtain ⟨hafter, _⟩ := List.pairwise_cons.mp hfrom
  constructor
  · rintro ⟨hk, hbefore⟩
    obtain ⟨a, ha, rfl⟩ := exists_claim hshares hk (servedBefore_class hbefore)
    rw [horder, List.mem_append, List.mem_cons] at ha
    obtain ha | rfl | ha := ha
    · exact List.mem_map_of_mem ha
    · rw [servedBefore_irrefl] at hbefore
      exact absurd hbefore Bool.false_ne_true
    · rw [servedBefore_asymm (hafter a ha)] at hbefore
      exact absurd hbefore Bool.false_ne_true
  · intro hk
    obtain ⟨a, ha, rfl⟩ := List.mem_map.mp hk
    refine ⟨(serviceOrder_lt (t := t) ?_).1, hacross a ha c List.mem_cons_self⟩
    rw [horder]
    exact List.mem_append_left _ ha

/-- A lane's grant stands at its claim's place, and the grants listed before it are those of the lanes served before it. -/
theorem grant_at (hshares : t.SharesInRange) {pre post : List Claim} {c : Claim}
    (horder : strictOrder t demands ++ weightedOrder t demands = pre ++ c :: post) {served : List (Nat × Nat)} {g left : Nat}
    (hgrants : ∃ tail, (shareOut t siteBudget demands).1 = served ++ (c.lane, g) :: tail)
    (hserved : served.map Prod.fst = pre.map Claim.lane) (hsum : (served.map Prod.snd).sum + left = siteBudget) :
    grantOf (shareOut t siteBudget demands).1 c.lane = g ∧
    siteBudget - (((List.range demands.length).filter fun k => servedBefore t demands k c.lane).map
      (grantOf (shareOut t siteBudget demands).1)).sum = left := by
  obtain ⟨tail, hgrants⟩ := hgrants
  have hnodup := shareOut_nodup t siteBudget demands
  have hserved' : (served.map Prod.fst).Nodup := by
    rw [hgrants, List.map_append] at hnodup
    exact (List.nodup_append.mp hnodup).1
  have hlanes : ((List.range demands.length).filter fun k => servedBefore t demands k c.lane).Perm (served.map Prod.fst) := by
    refine (List.perm_ext_iff_of_nodup (List.nodup_range.filter _) hserved').mpr fun k => ?_
    rw [List.mem_filter, List.mem_range, hserved]
    exact servedBefore_iff hshares horder k
  refine ⟨grantOf_of_mem hnodup (p := (c.lane, g)) (by rw [hgrants]; simp), ?_⟩
  rw [(hlanes.map _).sum_nat, sum_grantOf hnodup fun p hp => by rw [hgrants]; exact List.mem_append_left _ hp]
  omega

theorem grant_of_strict (hshares : t.SharesInRange) {l rank : Nat} (hl : l < demands.length)
    (hclass : t.classOf l = some (.strict rank)) :
    grantOf (shareOut t siteBudget demands).1 l = min (demands.getD l 0)
      (siteBudget - (((List.range demands.length).filter fun k => servedBefore t demands k l).map
        (grantOf (shareOut t siteBudget demands).1)).sum) := by
  obtain ⟨pre, post, hsplit⟩ := List.append_of_mem
    (mem_strictOrder.mpr ⟨⟨hl, rfl, hclass⟩, (hshares l).1 rank hclass⟩ :
      (⟨l, demands.getD l 0, rank⟩ : Claim) ∈ strictOrder t demands)
  have hgrants : ∃ tail, (shareOut t siteBudget demands).1 = (serveStrict siteBudget pre).1 ++
      (l, min (demands.getD l 0) (serveStrict siteBudget pre).2) :: tail := by
    rw [shareOut_eq, strictService, hsplit, serveStrict_append, List.append_assoc]
    exact ⟨_, rfl⟩
  have horder : strictOrder t demands ++ weightedOrder t demands =
      pre ++ ⟨l, demands.getD l 0, rank⟩ :: (post ++ weightedOrder t demands) := by
    rw [hsplit, List.append_assoc]
    rfl
  obtain ⟨hown, hleft⟩ := grant_at hshares horder hgrants (serveStrict_lanes siteBudget pre) (serveStrict_sum siteBudget pre)
  exact hown.trans (congrArg (min (demands.getD l 0)) hleft.symm)

theorem weightOf_of_weighted {l w : Nat} (h : t.classOf l = some (.weighted w)) : weightOf t l = w := by
  have hclass : (t.plan l).map LanePlan.budgetClass = some (.weighted w) := h
  unfold weightOf
  rw [hclass]

theorem class_of_weightOf {l : Nat} (h : weightOf t l ≠ 0) : ∃ w, t.classOf l = some (.weighted w) := by
  unfold weightOf at h
  split at h
  · rename_i w hclass
    exact ⟨w, hclass⟩
  · exact absurd rfl h

/-- The weights of the weighted lanes not yet served. -/
theorem weight_left (hshares : t.SharesInRange) {pre post : List Claim} {c : Claim}
    (hsplit : weightedOrder t demands = pre ++ c :: post) :
    (((List.range demands.length).filter fun k => !servedBefore t demands k c.lane).map (weightOf t)).sum =
      totalWeight (c :: post) := by
  have horder : strictOrder t demands ++ weightedOrder t demands = (strictOrder t demands ++ pre) ++ c :: post := by
    rw [hsplit, List.append_assoc]
  have hbefore := servedBefore_iff hshares horder
  have hnodup := serviceOrder_nodup t demands
  rw [horder, List.map_append] at hnodup
  obtain ⟨_, hks, hapart⟩ := List.nodup_append.mp hnodup
  have hweights : ((c :: post).map Claim.lane).map (weightOf t) = (c :: post).map Claim.share := by
    rw [List.map_map]
    refine List.map_congr_left fun a ha => weightOf_of_weighted (mem_weightedOrder (demands := demands).mp ?_).2.2
    rw [hsplit]
    exact List.mem_append_right _ ha
  rw [sum_map_of_support (ks := (c :: post).map Claim.lane) (List.nodup_range.filter _) hks (fun k hk => ?_)
    fun x hx hnot => ?_, hweights]
  · rfl
  · have hmem : k ∈ List.range demands.length := by
      obtain ⟨a, ha, rfl⟩ := List.mem_map.mp hk
      exact List.mem_range.mpr (serviceOrder_lt (by rw [horder]; exact List.mem_append_right _ ha)).1
    refine List.mem_filter.mpr ⟨hmem, ?_⟩
    rw [Bool.not_eq_true']
    refine Bool.eq_false_iff.mpr fun h => ?_
    exact hapart k ((hbefore k).mp ⟨List.mem_range.mp hmem, h⟩) k hk rfl
  · obtain ⟨hx, hlater⟩ := List.mem_filter.mp hx
    rw [Bool.not_eq_true'] at hlater
    by_contra hweight
    obtain ⟨w, hclass⟩ := class_of_weightOf hweight
    have hclaim : (⟨x, demands.getD x 0, w⟩ : Claim) ∈ weightedOrder t demands :=
      mem_weightedOrder.mpr ⟨List.mem_range.mp hx, rfl, hclass⟩
    rw [hsplit, List.mem_append] at hclaim
    obtain hclaim | hclaim := hclaim
    · have hserved := ((hbefore x).mpr (List.mem_map.mpr ⟨_, List.mem_append_right _ hclaim, rfl⟩)).2
      rw [hlater] at hserved
      exact absurd hserved Bool.false_ne_true
    · exact hnot (List.mem_map.mpr ⟨_, hclaim, rfl⟩)

theorem grant_of_weighted (hshares : t.SharesInRange) {l weight : Nat} (hl : l < demands.length)
    (hclass : t.classOf l = some (.weighted weight)) :
    grantOf (shareOut t siteBudget demands).1 l = min (demands.getD l 0)
      ((siteBudget - (((List.range demands.length).filter fun k => servedBefore t demands k l).map
        (grantOf (shareOut t siteBudget demands).1)).sum) * weight /
        (((List.range demands.length).filter fun k => !servedBefore t demands k l).map (weightOf t)).sum) := by
  obtain ⟨pre, post, hsplit⟩ := List.append_of_mem
    (mem_weightedOrder.mpr ⟨hl, rfl, hclass⟩ : (⟨l, demands.getD l 0, weight⟩ : Claim) ∈ weightedOrder t demands)
  have hleft := weight_left hshares hsplit
  have htotal : totalWeight (weightedOrder t demands) =
      totalWeight pre + totalWeight (⟨l, demands.getD l 0, weight⟩ :: post) := by rw [hsplit, totalWeight_append]
  generalize hp : serveWeighted (strictService t siteBudget demands).2 (totalWeight (weightedOrder t demands)) pre = p
  have hgrants : ∃ tail, (shareOut t siteBudget demands).1 = ((strictService t siteBudget demands).1 ++ p.1) ++
      (l, min (demands.getD l 0) (p.2 * weight / totalWeight (⟨l, demands.getD l 0, weight⟩ :: post))) :: tail := by
    rw [shareOut_eq]
    generalize totalWeight (weightedOrder t demands) = w at hp htotal ⊢
    rw [hsplit, serveWeighted_append, hp, htotal, Nat.add_sub_cancel_left, ← List.append_assoc]
    exact ⟨_, rfl⟩
  have horder : strictOrder t demands ++ weightedOrder t demands =
      (strictOrder t demands ++ pre) ++ ⟨l, demands.getD l 0, weight⟩ :: post := by
    rw [hsplit, List.append_assoc]
  have hlanes : ((strictService t siteBudget demands).1 ++ p.1).map Prod.fst =
      (strictOrder t demands ++ pre).map Claim.lane := by
    rw [List.map_append, List.map_append, ← hp, serveWeighted_lanes, strictService, serveStrict_lanes]
  have hsum : (((strictService t siteBudget demands).1 ++ p.1).map Prod.snd).sum + p.2 = siteBudget := by
    have hstrict : _ = siteBudget := serveStrict_sum siteBudget (strictOrder t demands)
    have hweighted := serveWeighted_sum (strictService t siteBudget demands).2 (cs := pre) (htotal ▸ Nat.le_add_right _ _)
    rw [hp] at hweighted
    rw [List.map_append, List.sum_append, Nat.add_assoc, hweighted]
    exact hstrict
  obtain ⟨hown, hrest⟩ := grant_at hshares horder hgrants hlanes hsum
  dsimp only at hown hrest hleft
  rw [hown, hrest, hleft]

/-! ### The apportionment (R139, R143) -/

theorem apportion_of_enough (value : Nat) (h : demands.sum ≤ siteBudget) :
    apportion t siteBudget value demands =
      ({ value, siteBudget, demandSum := demands.sum, short := false, unassigned := siteBudget - demands.sum }, demands) :=
  if_pos h

theorem apportion_of_short (value : Nat) (h : siteBudget < demands.sum) :
    apportion t siteBudget value demands =
      ({ value, siteBudget, demandSum := demands.sum, short := true, unassigned := (shareOut t siteBudget demands).2 },
        (List.range demands.length).map (grantOf (shareOut t siteBudget demands).1)) :=
  if_neg (Nat.not_le.mpr h)

end ShareOut

/-! ### Steps 3 to 7 on the lanes of a site (R82, R93) -/

/-- One lane's completion writes its demand and its grant, and touches no other lane, no other multiplier and no budget. -/
theorem completeLane_writes (sweep : SweepNo) (settled : List Settled) (demands grants : List Nat) (l : Nat) (s : State) :
    (∃ v, (completeLane sweep settled demands grants l s).lanes = s.lanes.set l v ∧ v.demand = demands.getD l 0 ∧
      v.grant = grants.getD l 0) ∧
    (∀ k, k ≠ l → (completeLane sweep settled demands grants l s).multiplier k = s.multiplier k) ∧
    (completeLane sweep settled demands grants l s).budget = s.budget := by
  by_cases hmuted : s.mutedSince l = true
  · rw [completeLane_of_muted hmuted]
    exact ⟨⟨_, rfl, rfl, rfl⟩, fun _ _ => rfl, rfl⟩
  · rw [completeLane_of_not_muted hmuted]
    exact ⟨⟨_, rfl, rfl, rfl⟩, fun k hk => State.multiplier_of_set_ne (s := s) rfl hk.symm, rfl⟩

/-- `t` is `s` after step 7 on the lanes below `n`. -/
structure State.CompletedBelow (s : State) (demands grants : List Nat) (n : Nat) (t : State) : Prop where
  length : t.lanes.length = s.lanes.length
  budget : t.budget = s.budget
  below : ∀ l, l < n → l < s.lanes.length → (t.lane l).demand = demands.getD l 0 ∧ (t.lane l).grant = grants.getD l 0
  above : ∀ l, n ≤ l → t.lane l = s.lane l ∧ t.multiplier l = s.multiplier l

theorem State.completedBelow (s : State) (sweep : SweepNo) (settled : List Settled) (demands grants : List Nat) (n : Nat) :
    s.CompletedBelow demands grants n
      ((List.range n).foldl (fun u l => completeLane sweep settled demands grants l u) s) := by
  refine foldl_range (P := s.CompletedBelow demands grants) n ⟨rfl, rfl, nofun, fun _ _ => ⟨rfl, rfl⟩⟩
    fun n t _ ⟨hlength, hbudget, hbelow, habove⟩ => ?_
  obtain ⟨⟨v, hlanes, hdemand, hgrant⟩, hmultiplier, hsame⟩ := completeLane_writes sweep settled demands grants n t
  refine ⟨?_, hsame.trans hbudget, fun l hl hlt => ?_, fun l hl => ?_⟩
  · rw [hlanes, List.length_set, hlength]
  · obtain rfl | hne := eq_or_ne n l
    · rw [State.lane_of_set hlanes (by rw [hlength]; exact hlt)]
      exact ⟨hdemand, hgrant⟩
    · rw [State.lane_of_set_ne hlanes hne]
      exact hbelow l (by omega) hlt
  · obtain ⟨hlane, hmult⟩ := habove l (by omega)
    have hne : n ≠ l := by omega
    exact ⟨(State.lane_of_set_ne hlanes hne).trans hlane, (hmultiplier l hne.symm).trans hmult⟩

/-! ### The budget value and the demands (R85, R141) -/

theorem State.laneDemand_eq {s : State} {l : Nat} {e : LanePlan} (h : s.activeSet.plan l = some e) (x : Settled) :
    (x ≠ .silent → s.laneDemand l x = e.ratedWatts * (s.lane l).ceiling / 1000) ∧
    (x = .silent → s.laneDemand l x = 0) := by
  unfold State.laneDemand
  rw [h]
  cases x with
  | silent => exact ⟨fun hne => absurd rfl hne, fun _ => rfl⟩
  | probe b => exact ⟨fun _ => rfl, nofun⟩
  | running b => exact ⟨fun _ => rfl, nofun⟩

theorem State.budgetValue_of_no_point {s : State} (h : s.activeSet.parameters.budgetPoint = none) : s.budgetValue = 1000 := by
  unfold State.budgetValue
  rw [h]

theorem State.budgetValue_of_valid {s : State} {i v : Nat} {curve : Curve}
    (hpoint : s.activeSet.parameters.budgetPoint = some i) (hstate : (s.pointOrNone i).state = .valid)
    (hvalue : (s.pointOrNone i).value = some v) (hquiet : (s.pointOrNone i).noisy = false)
    (hcurve : s.activeSet.curve s.activeSet.parameters.budgetCurve = some curve) :
    s.budgetValue = min 1000 (curveValue curve v) := by
  unfold State.budgetValue
  rw [hpoint]
  dsimp only
  rw [hstate, hvalue, hcurve, hquiet]
  rfl

theorem State.budgetValue_of_held {s : State} {i : Nat} (hpoint : s.activeSet.parameters.budgetPoint = some i)
    (h : (s.pointOrNone i).state ≠ .valid ∨ (s.pointOrNone i).noisy = true) : s.budgetValue = s.budget.value := by
  unfold State.budgetValue
  rw [hpoint]
  dsimp only
  split
  · rename_i hstate _ _
    exact if_pos (h.resolve_left fun hn => hn hstate)
  · rfl

theorem apportion_budget (t : TableSet) (siteBudget value : Nat) (demands : List Nat) :
    (apportion t siteBudget value demands).1.value = value ∧
    (apportion t siteBudget value demands).1.siteBudget = siteBudget ∧
    (apportion t siteBudget value demands).1.demandSum = demands.sum := by
  obtain hshort | henough := Nat.lt_or_ge siteBudget demands.sum
  · rw [apportion_of_short value hshort]
    exact ⟨rfl, rfl, rfl⟩
  · rw [apportion_of_enough value henough]
    exact ⟨rfl, rfl, rfl⟩

/-- Settles O43. -/
theorem grantsNeverExceedTheBudget : Obligations.GrantsNeverExceedTheBudget := by
  unfold Obligations.GrantsNeverExceedTheBudget
  refine ⟨fun s sweep settled => ?_, fun t siteBudget value demands => ?_⟩
  · intro q b lanes demands p t
    have hstage := State.completedBelow { s with budget := p.1, draws := s.draws + 1 } sweep settled demands p.2
      s.siteRecord.lanes
    have ht : t = lanes.foldl (fun u l => completeLane sweep settled demands p.2 l u)
      { s with budget := p.1, draws := s.draws + 1 } := rfl
    obtain ⟨hvalue, hsite, hsum⟩ := apportion_budget s.activeSet (s.siteRecord.siteMaximum * b / 1000) b demands
    have hdemand {l : Nat} (hl : l < s.siteRecord.lanes) : demands.getD l 0 = s.laneDemand l (settled.getD l .silent) := by
      simp [demands, lanes, List.getD_eq_getElem?_getD, hl]
    rw [← ht] at hstage
    refine ⟨hstage.budget, ?_, ?_, ?_, fun l x e he => State.laneDemand_eq he x, ht, fun l hl hlt => ?_, hstage.above,
      State.budgetValue_of_no_point, fun i v curve hi hstate hv hquiet hcurve =>
        State.budgetValue_of_valid hi hstate hv hquiet hcurve, fun i hi h => State.budgetValue_of_held hi h⟩
    · rw [hstage.budget]
      exact hvalue
    · rw [hstage.budget]
      exact hsite
    · rw [hstage.budget]
      exact hsum
    · rw [← hdemand hl]
      exact hstage.below l hl hlt
  · intro p
    obtain ⟨_, _, hsum⟩ := apportion_budget t siteBudget value demands
    obtain hshort | henough := Nat.lt_or_ge siteBudget demands.sum
    · have hp : p = _ := apportion_of_short value hshort
      rw [hp]
      dsimp only
      simp only [getD_grants]
      refine ⟨by simp, sum_grants t siteBudget demands, grantOf_shareOut_le t siteBudget demands,
        iff_of_true trivial hshort, fun h => absurd hshort (Nat.not_lt.mpr h), trivial, fun _ hplans l hl => ?_⟩
      have hshares := sharesInRange_of_plans hplans
      have hclass {e : LanePlan} (he : t.plan l = some e) : t.classOf l = some e.budgetClass := by
        rw [TableSet.classOf, he]
        rfl
      exact ⟨fun hnone => grantOf_shareOut_unserved (.inr hnone),
        fun e rank he hstrict => grant_of_strict hshares hl ((hclass he).trans (congrArg some hstrict)),
        fun e weight he hweighted => grant_of_weighted hshares hl ((hclass he).trans (congrArg some hweighted))⟩
    · have hp : p = _ := apportion_of_enough value henough
      rw [hp]
      refine ⟨rfl, Nat.add_sub_cancel' henough, fun _ => le_rfl, ?_, fun _ => rfl, rfl,
        fun h => absurd h (Nat.not_lt.mpr henough)⟩
      exact ⟨nofun, fun h => absurd h (Nat.not_lt.mpr henough)⟩

end Sys2Proof.Machine
